-- ==== Sys2Proof/Word.lean ====
section
/-! DEFINITION. The integer types of the block: one bit vector type per width the spec names. -/

namespace Sys2Proof

/-- Byte: "8-bit unsigned integer" (`00_scope.md` R6, R13). -/
abbrev Byte := BitVec 8

/-- UMPWord: "32-bit unsigned integer" (`00_scope.md` R6, R13). -/
abbrev Word := BitVec 32

/-- UInt4: an integer constrained to [0, 15] (R100). -/
abbrev U4 := BitVec 4

/-- UInt7: an integer constrained to [0, 127] (R101). -/
abbrev U7 := BitVec 7

/-- UInt8 (R102). -/
abbrev U8 := BitVec 8

/-- UInt14 (R102). -/
abbrev U14 := BitVec 14

/-- UInt16 (R102). -/
abbrev U16 := BitVec 16

/-- UInt32 (R102); a Bipolar32 is one of these (R110). -/
abbrev U32 := BitVec 32

end Sys2Proof
end

