-- ==== Sys2Proof/Config.lean ====
section
/-! DEFINITION. The parameters of the block (`00_scope.md` R6), its fixed quantities, and the one free value. -/

namespace Sys2Proof

/-- The parameter `RS_SCOPE` (R6, R24): whether running status exists and how long it lives. -/
inductive RsScope
  | none        -- the register is never written and always reads `none`
  | packet      -- cleared at the start of every packet (the spec's default)
  | connection  -- survives packet boundaries
deriving DecidableEq, Repr

/-- The parameter `SCALER_ARITH` (R6, R115): how the product inside `BP32.ENC` is formed. -/
inductive ScalerArith
  | exact     -- the exact rational (the spec's default)
  | binary64  -- the IEEE 754 binary64 product
deriving DecidableEq, Repr

/-- The two OPEN parameters of R6. The state carries them as constant data, no rule writes them, and a
claim about every state is a claim about every value of them (log 7). -/
structure Params where
  rsScope     : RsScope
  scalerArith : ScalerArith
deriving DecidableEq, Repr

/-- The spec's own recommended values (R6, column "status"). -/
def Params.default : Params := { rsScope := .packet, scalerArith := .exact }

/-- `NOZ_RESET` = 1 (R6). -/
def Config.nozReset : Bool := true

/-- `M1_GROUP` = 0 (R6, R166). -/
def Config.m1Group : U4 := 0#4

/-- `UMP_PKT_MAX` = 4 (R6, R221): the most words a UMP packet has by the interface contract. -/
def Config.umpPktMax : Nat := 4

/-- FREE VALUE (log 8). The result of `BP32.ENC` under `SCALER_ARITH = BINARY64` for a clamped operand that
is no binary64 value: R115 states that setting for binary64 operands only. It has no body; nothing can be proved
of its value. -/
opaque Config.scalerOffFormat : Rat → U32

end Sys2Proof
end

