-- ==== Sys2Proof/Syntax.lean ====
section
/-! DEFINITION. The abstract syntax: the values operations take, the Event model (`41_events.md`), and `Instr`, one
constructor per row of the opcode table. -/

namespace Sys2Proof

/-- SysExManufacturer (R120). Invalid codes are values of the type. -/
inductive Mfr
  | oneByte (b : U7)
  | threeByte (byte2 byte3 : U7)
deriving DecidableEq, Repr

/-- The 33 Event variants (R140 to R144), fields in the order of the spec's tables, then `channel` where the variant has one,
then `group`. The variant the spec calls `continue` is `continue_` here, that word being Lean's. -/
inductive Event
  -- MIDI 1.0 channel voice (R141)
  | noteOff (note velocity : U7) (channel group : U4)
  | noteOn (note velocity : U7) (channel group : U4)
  | notePressure (note amount : U7) (channel group : U4)
  | cc (controller value : U7) (channel group : U4)
  | programChange (program : U7) (channel group : U4)
  | pressure (amount : U7) (channel group : U4)
  | pitchBend (value : U14) (channel group : U4)
  -- system (R142)
  | timecodeQuarterFrame (dataByte : U7) (group : U4)
  | songPositionPointer (midiBeat : U14) (group : U4)
  | songSelect (number : U7) (group : U4)
  | tuneRequest (group : U4)
  | timingClock (group : U4)
  | start (group : U4)
  | continue_ (group : U4)
  | stop (group : U4)
  | activeSensing (group : U4)
  | systemReset (group : U4)
  -- SysEx (R143)
  | sysEx7 (manufacturer : Mfr) (data : List U7) (group : U4)
  -- MIDI 2.0 channel voice (R144)
  | m2RegisteredPerNoteController (note : U7) (index : U8) (value : U32) (channel group : U4)
  | m2AssignablePerNoteController (note : U7) (index : U8) (value : U32) (channel group : U4)
  | m2RegisteredController (bank index : U7) (value : U32) (channel group : U4)
  | m2AssignableController (bank index : U7) (value : U32) (channel group : U4)
  | m2RelativeRegisteredController (bank index : U7) (delta : U32) (channel group : U4)
  | m2RelativeAssignableController (bank index : U7) (delta : U32) (channel group : U4)
  | m2PerNotePitchBend (note : U7) (value : U32) (channel group : U4)
  | m2NoteOff (note : U7) (velocity : U16) (attrType : U8) (attrData : U16) (channel group : U4)
  | m2NoteOn (note : U7) (velocity : U16) (attrType : U8) (attrData : U16) (channel group : U4)
  | m2NotePressure (note : U7) (value : U32) (channel group : U4)
  | m2CC (index : U7) (value : U32) (channel group : U4)
  | m2ProgramChange (program : U7) (bank : Option (U7 × U7)) (channel group : U4)
  | m2Pressure (value : U32) (channel group : U4)
  | m2PitchBend (value : U32) (channel group : U4)
  | m2PerNoteManagement (note : U7) (detach reset : Bool) (channel group : U4)
deriving DecidableEq, Repr

/-- A manufacturer shape with unchecked integers: an operand of `EV.MAKE` (R145). -/
inductive RawMfr
  | oneByte (b : Int)
  | threeByte (byte2 byte3 : Int)
deriving DecidableEq, Repr

/-- The operands of `EV.MAKE(kind, f1, f2, ...)` (R145): a variant name and one mathematical integer per field, a bit for
`detach` and `reset`, a bank that is `none` or two integers (MSB, LSB), and a `group` that may be left out. -/
inductive RawEvent
  | noteOff (note velocity channel : Int) (group : Option Int)
  | noteOn (note velocity channel : Int) (group : Option Int)
  | notePressure (note amount channel : Int) (group : Option Int)
  | cc (controller value channel : Int) (group : Option Int)
  | programChange (program channel : Int) (group : Option Int)
  | pressure (amount channel : Int) (group : Option Int)
  | pitchBend (value channel : Int) (group : Option Int)
  | timecodeQuarterFrame (dataByte : Int) (group : Option Int)
  | songPositionPointer (midiBeat : Int) (group : Option Int)
  | songSelect (number : Int) (group : Option Int)
  | tuneRequest (group : Option Int)
  | timingClock (group : Option Int)
  | start (group : Option Int)
  | continue_ (group : Option Int)
  | stop (group : Option Int)
  | activeSensing (group : Option Int)
  | systemReset (group : Option Int)
  | sysEx7 (manufacturer : RawMfr) (data : List Int) (group : Option Int)
  | m2RegisteredPerNoteController (note index value channel : Int) (group : Option Int)
  | m2AssignablePerNoteController (note index value channel : Int) (group : Option Int)
  | m2RegisteredController (bank index value channel : Int) (group : Option Int)
  | m2AssignableController (bank index value channel : Int) (group : Option Int)
  | m2RelativeRegisteredController (bank index delta channel : Int) (group : Option Int)
  | m2RelativeAssignableController (bank index delta channel : Int) (group : Option Int)
  | m2PerNotePitchBend (note value channel : Int) (group : Option Int)
  | m2NoteOff (note velocity attrType attrData channel : Int) (group : Option Int)
  | m2NoteOn (note velocity attrType attrData channel : Int) (group : Option Int)
  | m2NotePressure (note value channel : Int) (group : Option Int)
  | m2CC (index value channel : Int) (group : Option Int)
  | m2ProgramChange (program : Int) (bank : Option (Int × Int)) (channel : Int) (group : Option Int)
  | m2Pressure (value channel : Int) (group : Option Int)
  | m2PitchBend (value channel : Int) (group : Option Int)
  | m2PerNoteManagement (note : Int) (detach reset : Bool) (channel : Int) (group : Option Int)
deriving DecidableEq, Repr

/-- The real-valued operand of `BP32.ENC` (R12, R111): `NaN`, an infinity or a finite rational; `-0.0` is the rational 0. -/
inductive Real64
  | nan
  | negInf
  | posInf
  | finite (q : Rat)
deriving DecidableEq, Repr

/-- The `protocol` operand (R221, R285). -/
inductive Protocol
  | p1_0
  | p2_0
deriving DecidableEq, Repr

/-- The instructions: one constructor per row of `spec/opcode_table.json`, in the table's order.

* Rows of format `M1B` are the bytes of a MIDI 1.0 packet (R61 to R66).
* Rows of formats `SYS1`, `CV1`, `SX7`, `CV2`, `D128`, `UNREC` are the first words of a UMP packet (R70 to R80); they carry every
  bit of that word their mask leaves free, the unread ones too, under the names of R70 (`b2`, `b3`).
* Rows of format `OP` are the operations, with the operands of R81's table. An M1P instance is named by its handle (log 4). -/
inductive Instr
  -- format M1B
  | data (value : U7)
  | noteOff (channel : U4)
  | noteOn (channel : U4)
  | polyPressure (channel : U4)
  | controlChange (channel : U4)
  | programChange (channel : U4)
  | channelPressure (channel : U4)
  | pitchBend (channel : U4)
  | sox
  | mtcQf
  | songPos
  | songSel
  | undefF4
  | undefF5
  | tuneReq
  | eox
  | clock
  | undefF9
  | start
  | continue_
  | stop
  | undefFD
  | activeSense
  | sysReset
  -- format SYS1
  | umpMtcQf (group : U4) (b2 b3 : Byte)
  | umpSongPos (group : U4) (b2 b3 : Byte)
  | umpSongSel (group : U4) (b2 b3 : Byte)
  | umpTuneReq (group : U4) (b2 b3 : Byte)
  | umpClock (group : U4) (b2 b3 : Byte)
  | umpStart (group : U4) (b2 b3 : Byte)
  | umpContinue (group : U4) (b2 b3 : Byte)
  | umpStop (group : U4) (b2 b3 : Byte)
  | umpActiveSense (group : U4) (b2 b3 : Byte)
  | umpSysReset (group : U4) (b2 b3 : Byte)
  | sys1Unrec00_7F (group : U4) (low : BitVec 7) (b2 b3 : Byte)
  | sys1Unrec80_BF (group : U4) (low : BitVec 6) (b2 b3 : Byte)
  | sys1UnrecC0_DF (group : U4) (low : BitVec 5) (b2 b3 : Byte)
  | sys1UnrecE0_EF (group : U4) (low : BitVec 4) (b2 b3 : Byte)
  | sys1UnrecF0 (group : U4) (b2 b3 : Byte)
  | sys1UnrecF4 (group : U4) (b2 b3 : Byte)
  | sys1UnrecF5 (group : U4) (b2 b3 : Byte)
  | sys1UnrecF7 (group : U4) (b2 b3 : Byte)
  | sys1UnrecF9 (group : U4) (b2 b3 : Byte)
  | sys1UnrecFD (group : U4) (b2 b3 : Byte)
  -- format CV1
  | umpNoteOff (group channel : U4) (b2 b3 : Byte)
  | umpNoteOn (group channel : U4) (b2 b3 : Byte)
  | umpPolyPressure (group channel : U4) (b2 b3 : Byte)
  | umpControlChange (group channel : U4) (b2 b3 : Byte)
  | umpProgramChange (group channel : U4) (b2 b3 : Byte)
  | umpChannelPressure (group channel : U4) (b2 b3 : Byte)
  | umpPitchBend (group channel : U4) (b2 b3 : Byte)
  | cv1Unrec0_7 (group : U4) (status : BitVec 3) (channel : U4) (b2 b3 : Byte)
  | cv1UnrecF (group channel : U4) (b2 b3 : Byte)
  -- format SX7
  | sx7Complete (group nbytes : U4) (b2 b3 : Byte)
  | sx7Start (group nbytes : U4) (b2 b3 : Byte)
  | sx7Continue (group nbytes : U4) (b2 b3 : Byte)
  | sx7End (group nbytes : U4) (b2 b3 : Byte)
  | sx7Reserved4_7 (group : U4) (status : BitVec 2) (nbytes : U4) (b2 b3 : Byte)
  | sx7Reserved8_F (group : U4) (status : BitVec 3) (nbytes : U4) (b2 b3 : Byte)
  -- format CV2
  | m2RegPnCtrl (group channel : U4) (b2 b3 : Byte)
  | m2AsgPnCtrl (group channel : U4) (b2 b3 : Byte)
  | m2RegCtrl (group channel : U4) (b2 b3 : Byte)
  | m2AsgCtrl (group channel : U4) (b2 b3 : Byte)
  | m2RelRegCtrl (group channel : U4) (b2 b3 : Byte)
  | m2RelAsgCtrl (group channel : U4) (b2 b3 : Byte)
  | m2PnPitchBend (group channel : U4) (b2 b3 : Byte)
  | m2Reserved7 (group channel : U4) (b2 b3 : Byte)
  | m2NoteOff (group channel : U4) (b2 b3 : Byte)
  | m2NoteOn (group channel : U4) (b2 b3 : Byte)
  | m2PolyPressure (group channel : U4) (b2 b3 : Byte)
  | m2ControlChange (group channel : U4) (b2 b3 : Byte)
  | m2ProgramChange (group channel : U4) (b2 b3 : Byte)
  | m2ChannelPressure (group channel : U4) (b2 b3 : Byte)
  | m2PitchBend (group channel : U4) (b2 b3 : Byte)
  | m2PnManagement (group channel : U4) (b2 b3 : Byte)
  -- format D128
  | d128 (group : U4) (rest : BitVec 24)
  -- format UNREC
  | unrecMt0 (group : U4) (rest : BitVec 24)
  | unrecMt6 (group : U4) (rest : BitVec 24)
  | unrecMt7 (group : U4) (rest : BitVec 24)
  | unrecMt8 (group : U4) (rest : BitVec 24)
  | unrecMt9 (group : U4) (rest : BitVec 24)
  | unrecMtA (group : U4) (rest : BitVec 24)
  | unrecMtB (group : U4) (rest : BitVec 24)
  | unrecMtC (group : U4) (rest : BitVec 24)
  | unrecMtD (group : U4) (rest : BitVec 24)
  | unrecMtE (group : U4) (rest : BitVec 24)
  | unrecMtF (group : U4) (rest : BitVec 24)
  -- format OP
  | m1Reset (target : Option Nat) (noz : Option Bool)
  | cfgWrite (inst : Nat) (v : Bool)
  | m1Packet (inst : Nat) (bytes : List Byte) (timestamp : BitVec 64)
  | sx7FromBytes (bytes : List Byte) (group : Option U4)
  | m2Decode (words : List Word) (timestamp : BitVec 64) (protocol : Protocol)
  | packM1 (event : Event)
  | packUmp (event : Event) (protocol : Protocol)
  | bp32Enc (value : Real64)
  | bp32Dec (raw : U32)
  | u4Check (x : Int)
  | u7Check (x : Int)
  | mfrValid (m : Mfr)
  | evMake (raw : RawEvent)
  | evEq (a b : Event)
  | m1Abandon (inst : Nat)
  | opReservedF
deriving DecidableEq, Repr

/-- The operand ports of an operation (D1: "ports are the operands and results of operations"). A port that an operation does not
read may hold anything. -/
structure Ports where
  target    : Option Nat
  noz       : Option Bool
  inst      : Nat
  flag      : Bool
  bytes     : List Byte
  timestamp : BitVec 64
  group     : Option U4
  words     : List Word
  protocol  : Protocol
  event     : Event
  event2    : Event
  value     : Real64
  raw       : U32
  int       : Int
  mfr       : Mfr
  rawEvent  : RawEvent
deriving DecidableEq, Repr

/-- Every port at zero, empty or absent: the ports of an operation whose operands were not driven. -/
def Ports.zero : Ports :=
  { target := none, noz := none, inst := 0, flag := false, bytes := [], timestamp := 0#64, group := none, words := [],
    protocol := .p1_0, event := .tuneRequest 0#4, event2 := .tuneRequest 0#4, value := .finite 0, raw := 0#32, int := 0,
    mfr := .oneByte 0#7, rawEvent := .tuneRequest none }

/-- An operation as the host issues it: the select code of R81 and the operand ports. -/
structure Request where
  opsel : BitVec 4
  ports : Ports
deriving DecidableEq, Repr

/-- What the block decodes: a byte of a MIDI 1.0 packet, the first word of a UMP packet, or an operation (R60). -/
inductive Encoded
  | byte (b : Byte)
  | word (w : Word)
  | op (r : Request)
deriving DecidableEq, Repr

end Sys2Proof
end

