-- ==== Sys2Proof/Machine/Operands.lean ====
section
/-! DEFINITION. Operand forms: the bit-field packer primitives (`40_value_types.md` R105 to R108), the fields of a UMPWord (R70, R78),
byte classes and lengths (R61, R62, R71), and the forms in which a byte becomes a 7-bit field (R103) and back. -/

namespace Sys2Proof.Machine

/-! ### Packer primitives -/

/-- `PK.NIB(hi, lo)` (R105): `hi` in bits 7:4, `lo` in bits 3:0. -/
def pkNib (hi lo : U4) : Byte := hi ++ lo

/-- The high nibble `b[7:4]` of `PK.UNNIB(b)` (R105). -/
def hiNib (b : Byte) : U4 := b.extractLsb' 4 4

/-- The low nibble `b[3:0]` of `PK.UNNIB(b)` (R105). -/
def loNib (b : Byte) : U4 := b.extractLsb' 0 4

/-- `PK.UNNIB(b)` (R105). -/
def pkUnnib (b : Byte) : U4 × U4 := (hiNib b, loNib b)

/-- `PK.U14(msb, lsb)` (R106): `(msb << 7) | lsb`. -/
def pkU14 (msb lsb : U7) : U14 := msb ++ lsb

/-- `v[13:7]`, the most significant half of `PK.UN14(v)` (R106). -/
def msb14 (v : U14) : U7 := v.extractLsb' 7 7

/-- `v[6:0]`, the least significant half of `PK.UN14(v)` (R106); it travels first (R45). -/
def lsb14 (v : U14) : U7 := v.extractLsb' 0 7

/-- `PK.UN14(v)` (R106). -/
def pkUn14 (v : U14) : U7 × U7 := (msb14 v, lsb14 v)

/-- `PK.WORD(b0, b1, b2, b3)` (R107, R44): the first byte is the top byte. -/
def pkWord (b0 b1 b2 b3 : Byte) : Word := b0 ++ b1 ++ b2 ++ b3

/-- Bits 31:24 of a UMPWord (R44, R107). -/
def wordByte0 (w : Word) : Byte := w.extractLsb' 24 8

/-- Bits 23:16 of a UMPWord (R44, R107). -/
def wordByte1 (w : Word) : Byte := w.extractLsb' 16 8

/-- Bits 15:8 of a UMPWord (R44, R107). -/
def wordByte2 (w : Word) : Byte := w.extractLsb' 8 8

/-- Bits 7:0 of a UMPWord (R44, R107). -/
def wordByte3 (w : Word) : Byte := w.extractLsb' 0 8

/-- `PK.UNWORD(w)` (R107). -/
def pkUnword (w : Word) : Byte × Byte × Byte × Byte := (wordByte0 w, wordByte1 w, wordByte2 w, wordByte3 w)

/-- `PK.HALF(h, l)` (R108). -/
def pkHalf (h l : U16) : Word := h ++ l

/-- `w[31:16]` of `PK.UNHALF(w)` (R108). -/
def hiHalf (w : Word) : U16 := w.extractLsb' 16 16

/-- `w[15:0]` of `PK.UNHALF(w)` (R108). -/
def loHalf (w : Word) : U16 := w.extractLsb' 0 16

/-- `PK.UNHALF(w)` (R108). -/
def pkUnhalf (w : Word) : U16 × U16 := (hiHalf w, loHalf w)

/-! ### Fields of a first UMPWord (R70, R78) -/

/-- `mt = w0[31:28]`. -/
def wordMt (w : Word) : U4 := hiNib (wordByte0 w)

/-- `group = w0[27:24]`. -/
def wordGroup (w : Word) : U4 := loNib (wordByte0 w)

/-- `w0[23:0]`, the bits below the top byte. -/
def wordRest (w : Word) : BitVec 24 := w.extractLsb' 0 24

/-- A first word from its top byte and the other 24 bits. -/
def pkTop (mt group : U4) (rest : BitVec 24) : Word := pkNib mt group ++ rest

/-! ### 7-bit fields -/

/-- The Byte that carries a 7-bit field: bit 7 is 0 (R66). -/
def byteOf7 (v : U7) : Byte := 0#1 ++ v

/-- Bits 6:0 of a data byte (R66, R67). -/
def low7 (b : Byte) : U7 := b.extractLsb' 0 7

/-- `b[7] = 0`: the byte is a data byte (R61). -/
def isData (b : Byte) : Bool := decide (b.toNat < 0x80)

/-- `U7.FROMBYTE(b)` (R103): the byte whole if `b[7] = 0`, else a failure; never masked. -/
def u7FromByte (b : Byte) : Option U7 := if isData b then some (low7 b) else none

/-- `U7.FROMBYTE` of every byte of a sequence; a failure if one fails. -/
def u7FromBytes : List Byte → Option (List U7)
  | [] => some []
  | b :: bs =>
    match u7FromByte b, u7FromBytes bs with
    | some v, some vs => some (v :: vs)
    | _, _ => none

/-! ### Lengths -/

/-- `need(st)` (R62, R165): how many data bytes complete a message with status `st`. `none` for `0xF0`, whose length is variable, and for
a byte that is no status byte. -/
def need (st : Byte) : Option Nat :=
  let n := st.toNat
  if n < 0x80 then none
  else if n < 0xC0 then some 2
  else if n < 0xE0 then some 1
  else if n < 0xF0 then some 2
  else if n = 0xF0 then none
  else if n = 0xF1 then some 1
  else if n = 0xF2 then some 2
  else if n = 0xF3 then some 1
  else some 0

/-- `nwords(mt)` (R71): the word count of a message type; `none` where the spec defines none (`0x0`, `0x6..0xF`). -/
def nwords (mt : U4) : Option Nat :=
  match mt.toNat with
  | 0x1 => some 1
  | 0x2 => some 1
  | 0x3 => some 2
  | 0x4 => some 2
  | 0x5 => some 4
  | _ => none

end Sys2Proof.Machine
end

