-- ==== Sys2Proof/Decode.lean ====
section
/-! DEFINITION. The decoder, the encoder, and the opcode table. What is decoded is a byte of a MIDI 1.0 packet, the first word of a UMP
packet, or an operation with its ports (R60); which of the three stands there is known from where it is fetched. Every byte, every
word and every `OPSEL` code is some row's (R84), so `decode` rejects nothing; the numbers that are none of these are rejected by name
in `decodeTable`. -/

namespace Sys2Proof

open Sys2Proof.Machine

/-! ### Decoding -/

/-- A byte `0xF0..0xFF` by its low nibble (R64, R65). -/
def decodeSystemByte (low : U4) : Instr :=
  match low.toNat with
  | 0x0 => .sox
  | 0x1 => .mtcQf
  | 0x2 => .songPos
  | 0x3 => .songSel
  | 0x4 => .undefF4
  | 0x5 => .undefF5
  | 0x6 => .tuneReq
  | 0x7 => .eox
  | 0x8 => .clock
  | 0x9 => .undefF9
  | 0xA => .start
  | 0xB => .continue_
  | 0xC => .stop
  | 0xD => .undefFD
  | 0xE => .activeSense
  | _ => .sysReset

/-- A byte of a MIDI 1.0 packet (R61, R63 to R66). -/
def decodeByte (b : Byte) : Instr :=
  match (hiNib b).toNat with
  | 0x8 => .noteOff (loNib b)
  | 0x9 => .noteOn (loNib b)
  | 0xA => .polyPressure (loNib b)
  | 0xB => .controlChange (loNib b)
  | 0xC => .programChange (loNib b)
  | 0xD => .channelPressure (loNib b)
  | 0xE => .pitchBend (loNib b)
  | 0xF => decodeSystemByte (loNib b)
  | _ => .data (low7 b)

/-- Message type `0x1` by its status byte `b1` (R72, R84). -/
def decodeSys1 (group : U4) (b1 b2 b3 : Byte) : Instr :=
  match (hiNib b1).toNat with
  | 0xF =>
    match (loNib b1).toNat with
    | 0x0 => .sys1UnrecF0 group b2 b3
    | 0x1 => .umpMtcQf group b2 b3
    | 0x2 => .umpSongPos group b2 b3
    | 0x3 => .umpSongSel group b2 b3
    | 0x4 => .sys1UnrecF4 group b2 b3
    | 0x5 => .sys1UnrecF5 group b2 b3
    | 0x6 => .umpTuneReq group b2 b3
    | 0x7 => .sys1UnrecF7 group b2 b3
    | 0x8 => .umpClock group b2 b3
    | 0x9 => .sys1UnrecF9 group b2 b3
    | 0xA => .umpStart group b2 b3
    | 0xB => .umpContinue group b2 b3
    | 0xC => .umpStop group b2 b3
    | 0xD => .sys1UnrecFD group b2 b3
    | 0xE => .umpActiveSense group b2 b3
    | _ => .umpSysReset group b2 b3
  | 0xE => .sys1UnrecE0_EF group (b1.extractLsb' 0 4) b2 b3
  | 0xD => .sys1UnrecC0_DF group (b1.extractLsb' 0 5) b2 b3
  | 0xC => .sys1UnrecC0_DF group (b1.extractLsb' 0 5) b2 b3
  | 0xB => .sys1Unrec80_BF group (b1.extractLsb' 0 6) b2 b3
  | 0xA => .sys1Unrec80_BF group (b1.extractLsb' 0 6) b2 b3
  | 0x9 => .sys1Unrec80_BF group (b1.extractLsb' 0 6) b2 b3
  | 0x8 => .sys1Unrec80_BF group (b1.extractLsb' 0 6) b2 b3
  | _ => .sys1Unrec00_7F group (low7 b1) b2 b3

/-- Message type `0x2` by its status nibble (R73, R84). -/
def decodeCv1 (group status channel : U4) (b2 b3 : Byte) : Instr :=
  match status.toNat with
  | 0x8 => .umpNoteOff group channel b2 b3
  | 0x9 => .umpNoteOn group channel b2 b3
  | 0xA => .umpPolyPressure group channel b2 b3
  | 0xB => .umpControlChange group channel b2 b3
  | 0xC => .umpProgramChange group channel b2 b3
  | 0xD => .umpChannelPressure group channel b2 b3
  | 0xE => .umpPitchBend group channel b2 b3
  | 0xF => .cv1UnrecF group channel b2 b3
  | _ => .cv1Unrec0_7 group (status.extractLsb' 0 3) channel b2 b3

/-- Message type `0x3` by its segment status (R74, R84). -/
def decodeSx7 (group status nbytes : U4) (b2 b3 : Byte) : Instr :=
  match status.toNat with
  | 0x0 => .sx7Complete group nbytes b2 b3
  | 0x1 => .sx7Start group nbytes b2 b3
  | 0x2 => .sx7Continue group nbytes b2 b3
  | 0x3 => .sx7End group nbytes b2 b3
  | 0x4 => .sx7Reserved4_7 group (status.extractLsb' 0 2) nbytes b2 b3
  | 0x5 => .sx7Reserved4_7 group (status.extractLsb' 0 2) nbytes b2 b3
  | 0x6 => .sx7Reserved4_7 group (status.extractLsb' 0 2) nbytes b2 b3
  | 0x7 => .sx7Reserved4_7 group (status.extractLsb' 0 2) nbytes b2 b3
  | _ => .sx7Reserved8_F group (status.extractLsb' 0 3) nbytes b2 b3

/-- Message type `0x4` by its status nibble (R75, R76). -/
def decodeCv2 (group status channel : U4) (b2 b3 : Byte) : Instr :=
  match status.toNat with
  | 0x0 => .m2RegPnCtrl group channel b2 b3
  | 0x1 => .m2AsgPnCtrl group channel b2 b3
  | 0x2 => .m2RegCtrl group channel b2 b3
  | 0x3 => .m2AsgCtrl group channel b2 b3
  | 0x4 => .m2RelRegCtrl group channel b2 b3
  | 0x5 => .m2RelAsgCtrl group channel b2 b3
  | 0x6 => .m2PnPitchBend group channel b2 b3
  | 0x7 => .m2Reserved7 group channel b2 b3
  | 0x8 => .m2NoteOff group channel b2 b3
  | 0x9 => .m2NoteOn group channel b2 b3
  | 0xA => .m2PolyPressure group channel b2 b3
  | 0xB => .m2ControlChange group channel b2 b3
  | 0xC => .m2ProgramChange group channel b2 b3
  | 0xD => .m2ChannelPressure group channel b2 b3
  | 0xE => .m2PitchBend group channel b2 b3
  | _ => .m2PnManagement group channel b2 b3

/-- The first word of a UMP packet, by its message-type nibble (R70, R71, R80). -/
def decodeWord (w : Word) : Instr :=
  let group := wordGroup w
  let b1 := wordByte1 w
  let b2 := wordByte2 w
  let b3 := wordByte3 w
  match (wordMt w).toNat with
  | 0x0 => .unrecMt0 group (wordRest w)
  | 0x1 => decodeSys1 group b1 b2 b3
  | 0x2 => decodeCv1 group (hiNib b1) (loNib b1) b2 b3
  | 0x3 => decodeSx7 group (hiNib b1) (loNib b1) b2 b3
  | 0x4 => decodeCv2 group (hiNib b1) (loNib b1) b2 b3
  | 0x5 => .d128 group (wordRest w)
  | 0x6 => .unrecMt6 group (wordRest w)
  | 0x7 => .unrecMt7 group (wordRest w)
  | 0x8 => .unrecMt8 group (wordRest w)
  | 0x9 => .unrecMt9 group (wordRest w)
  | 0xA => .unrecMtA group (wordRest w)
  | 0xB => .unrecMtB group (wordRest w)
  | 0xC => .unrecMtC group (wordRest w)
  | 0xD => .unrecMtD group (wordRest w)
  | 0xE => .unrecMtE group (wordRest w)
  | _ => .unrecMtF group (wordRest w)

/-- An operation, by its select code (R81), with the operands its ports carry. -/
def decodeOp (r : Request) : Instr :=
  let p := r.ports
  match r.opsel.toNat with
  | 0x0 => .m1Reset p.target p.noz
  | 0x1 => .cfgWrite p.inst p.flag
  | 0x2 => .m1Packet p.inst p.bytes p.timestamp
  | 0x3 => .sx7FromBytes p.bytes p.group
  | 0x4 => .m2Decode p.words p.timestamp p.protocol
  | 0x5 => .packM1 p.event
  | 0x6 => .packUmp p.event p.protocol
  | 0x7 => .bp32Enc p.value
  | 0x8 => .bp32Dec p.raw
  | 0x9 => .u4Check p.int
  | 0xA => .u7Check p.int
  | 0xB => .mfrValid p.mfr
  | 0xC => .evMake p.rawEvent
  | 0xD => .evEq p.event p.event2
  | 0xE => .m1Abandon p.inst
  | _ => .opReservedF

/-- The decoder (R60). -/
def decode : Encoded → Instr
  | .byte b => decodeByte b
  | .word w => decodeWord w
  | .op r => decodeOp r

/-! ### Decoding by the table's numbers -/

/-- Why a number is no instruction of the table. -/
inductive DecodeError
  | widthNotInTable  -- the table has rows of 4, 8 and 32 bits only
  | valueTooWide     -- the number does not fit the width
deriving DecidableEq, Repr

/-- A number of the table's widths as what the block decodes. Rows of format `OP` have 4 bits and rows of format `M1B` have 8; in whole
bytes both have 8. An 8-bit number below 16 is read as an `OPSEL` code, since that is what the block fetches first after reset, and
any other as a byte of a MIDI 1.0 packet (log 9). The operand ports of an operation read as `Ports.zero`. -/
def tableEncoded (nbits w : Nat) : Except DecodeError Encoded :=
  if nbits = 4 then
    if w < 16 then .ok (.op ⟨BitVec.ofNat 4 w, Ports.zero⟩) else .error .valueTooWide
  else if nbits = 8 then
    if w < 16 then .ok (.op ⟨BitVec.ofNat 4 w, Ports.zero⟩)
    else if w < 256 then .ok (.byte (BitVec.ofNat 8 w))
    else .error .valueTooWide
  else if nbits = 32 then
    if w < 2 ^ 32 then .ok (.word (BitVec.ofNat 32 w)) else .error .valueTooWide
  else .error .widthNotInTable

/-- The decoder on the table's numbers, rejecting by name. -/
def decodeTable (nbits w : Nat) : Except DecodeError Instr :=
  match tableEncoded nbits w with
  | .ok e => .ok (decode e)
  | .error r => .error r

/-- The instruction the decoder reads from an instruction whose bits are `w`, numbered as the opcode table numbers them. -/
def decodeTableWord (nbits w : Nat) : Option Instr :=
  match decodeTable nbits w with
  | .ok i => some i
  | .error _ => none

/-! ### Encoding -/

/-- The encoder, from the tables of R63 to R66, R70 to R77 and R81. -/
def encode : Instr → Encoded
  | .data value => .byte (byteOf7 value)
  | .noteOff channel => .byte (pkNib 0x8#4 channel)
  | .noteOn channel => .byte (pkNib 0x9#4 channel)
  | .polyPressure channel => .byte (pkNib 0xA#4 channel)
  | .controlChange channel => .byte (pkNib 0xB#4 channel)
  | .programChange channel => .byte (pkNib 0xC#4 channel)
  | .channelPressure channel => .byte (pkNib 0xD#4 channel)
  | .pitchBend channel => .byte (pkNib 0xE#4 channel)
  | .sox => .byte 0xF0#8
  | .mtcQf => .byte 0xF1#8
  | .songPos => .byte 0xF2#8
  | .songSel => .byte 0xF3#8
  | .undefF4 => .byte 0xF4#8
  | .undefF5 => .byte 0xF5#8
  | .tuneReq => .byte 0xF6#8
  | .eox => .byte 0xF7#8
  | .clock => .byte 0xF8#8
  | .undefF9 => .byte 0xF9#8
  | .start => .byte 0xFA#8
  | .continue_ => .byte 0xFB#8
  | .stop => .byte 0xFC#8
  | .undefFD => .byte 0xFD#8
  | .activeSense => .byte 0xFE#8
  | .sysReset => .byte 0xFF#8
  | .umpMtcQf group b2 b3 => .word (pkWord (pkNib 0x1#4 group) 0xF1#8 b2 b3)
  | .umpSongPos group b2 b3 => .word (pkWord (pkNib 0x1#4 group) 0xF2#8 b2 b3)
  | .umpSongSel group b2 b3 => .word (pkWord (pkNib 0x1#4 group) 0xF3#8 b2 b3)
  | .umpTuneReq group b2 b3 => .word (pkWord (pkNib 0x1#4 group) 0xF6#8 b2 b3)
  | .umpClock group b2 b3 => .word (pkWord (pkNib 0x1#4 group) 0xF8#8 b2 b3)
  | .umpStart group b2 b3 => .word (pkWord (pkNib 0x1#4 group) 0xFA#8 b2 b3)
  | .umpContinue group b2 b3 => .word (pkWord (pkNib 0x1#4 group) 0xFB#8 b2 b3)
  | .umpStop group b2 b3 => .word (pkWord (pkNib 0x1#4 group) 0xFC#8 b2 b3)
  | .umpActiveSense group b2 b3 => .word (pkWord (pkNib 0x1#4 group) 0xFE#8 b2 b3)
  | .umpSysReset group b2 b3 => .word (pkWord (pkNib 0x1#4 group) 0xFF#8 b2 b3)
  | .sys1Unrec00_7F group low b2 b3 => .word (pkWord (pkNib 0x1#4 group) (0#1 ++ low) b2 b3)
  | .sys1Unrec80_BF group low b2 b3 => .word (pkWord (pkNib 0x1#4 group) (0b10#2 ++ low) b2 b3)
  | .sys1UnrecC0_DF group low b2 b3 => .word (pkWord (pkNib 0x1#4 group) (0b110#3 ++ low) b2 b3)
  | .sys1UnrecE0_EF group low b2 b3 => .word (pkWord (pkNib 0x1#4 group) (0xE#4 ++ low) b2 b3)
  | .sys1UnrecF0 group b2 b3 => .word (pkWord (pkNib 0x1#4 group) 0xF0#8 b2 b3)
  | .sys1UnrecF4 group b2 b3 => .word (pkWord (pkNib 0x1#4 group) 0xF4#8 b2 b3)
  | .sys1UnrecF5 group b2 b3 => .word (pkWord (pkNib 0x1#4 group) 0xF5#8 b2 b3)
  | .sys1UnrecF7 group b2 b3 => .word (pkWord (pkNib 0x1#4 group) 0xF7#8 b2 b3)
  | .sys1UnrecF9 group b2 b3 => .word (pkWord (pkNib 0x1#4 group) 0xF9#8 b2 b3)
  | .sys1UnrecFD group b2 b3 => .word (pkWord (pkNib 0x1#4 group) 0xFD#8 b2 b3)
  | .umpNoteOff group channel b2 b3 => .word (pkWord (pkNib 0x2#4 group) (pkNib 0x8#4 channel) b2 b3)
  | .umpNoteOn group channel b2 b3 => .word (pkWord (pkNib 0x2#4 group) (pkNib 0x9#4 channel) b2 b3)
  | .umpPolyPressure group channel b2 b3 => .word (pkWord (pkNib 0x2#4 group) (pkNib 0xA#4 channel) b2 b3)
  | .umpControlChange group channel b2 b3 => .word (pkWord (pkNib 0x2#4 group) (pkNib 0xB#4 channel) b2 b3)
  | .umpProgramChange group channel b2 b3 => .word (pkWord (pkNib 0x2#4 group) (pkNib 0xC#4 channel) b2 b3)
  | .umpChannelPressure group channel b2 b3 => .word (pkWord (pkNib 0x2#4 group) (pkNib 0xD#4 channel) b2 b3)
  | .umpPitchBend group channel b2 b3 => .word (pkWord (pkNib 0x2#4 group) (pkNib 0xE#4 channel) b2 b3)
  | .cv1Unrec0_7 group status channel b2 b3 => .word (pkWord (pkNib 0x2#4 group) (pkNib (0#1 ++ status) channel) b2 b3)
  | .cv1UnrecF group channel b2 b3 => .word (pkWord (pkNib 0x2#4 group) (pkNib 0xF#4 channel) b2 b3)
  | .sx7Complete group nbytes b2 b3 => .word (pkWord (pkNib 0x3#4 group) (pkNib 0x0#4 nbytes) b2 b3)
  | .sx7Start group nbytes b2 b3 => .word (pkWord (pkNib 0x3#4 group) (pkNib 0x1#4 nbytes) b2 b3)
  | .sx7Continue group nbytes b2 b3 => .word (pkWord (pkNib 0x3#4 group) (pkNib 0x2#4 nbytes) b2 b3)
  | .sx7End group nbytes b2 b3 => .word (pkWord (pkNib 0x3#4 group) (pkNib 0x3#4 nbytes) b2 b3)
  | .sx7Reserved4_7 group status nbytes b2 b3 => .word (pkWord (pkNib 0x3#4 group) (pkNib (0b01#2 ++ status) nbytes) b2 b3)
  | .sx7Reserved8_F group status nbytes b2 b3 => .word (pkWord (pkNib 0x3#4 group) (pkNib (1#1 ++ status) nbytes) b2 b3)
  | .m2RegPnCtrl group channel b2 b3 => .word (pkWord (pkNib 0x4#4 group) (pkNib 0x0#4 channel) b2 b3)
  | .m2AsgPnCtrl group channel b2 b3 => .word (pkWord (pkNib 0x4#4 group) (pkNib 0x1#4 channel) b2 b3)
  | .m2RegCtrl group channel b2 b3 => .word (pkWord (pkNib 0x4#4 group) (pkNib 0x2#4 channel) b2 b3)
  | .m2AsgCtrl group channel b2 b3 => .word (pkWord (pkNib 0x4#4 group) (pkNib 0x3#4 channel) b2 b3)
  | .m2RelRegCtrl group channel b2 b3 => .word (pkWord (pkNib 0x4#4 group) (pkNib 0x4#4 channel) b2 b3)
  | .m2RelAsgCtrl group channel b2 b3 => .word (pkWord (pkNib 0x4#4 group) (pkNib 0x5#4 channel) b2 b3)
  | .m2PnPitchBend group channel b2 b3 => .word (pkWord (pkNib 0x4#4 group) (pkNib 0x6#4 channel) b2 b3)
  | .m2Reserved7 group channel b2 b3 => .word (pkWord (pkNib 0x4#4 group) (pkNib 0x7#4 channel) b2 b3)
  | .m2NoteOff group channel b2 b3 => .word (pkWord (pkNib 0x4#4 group) (pkNib 0x8#4 channel) b2 b3)
  | .m2NoteOn group channel b2 b3 => .word (pkWord (pkNib 0x4#4 group) (pkNib 0x9#4 channel) b2 b3)
  | .m2PolyPressure group channel b2 b3 => .word (pkWord (pkNib 0x4#4 group) (pkNib 0xA#4 channel) b2 b3)
  | .m2ControlChange group channel b2 b3 => .word (pkWord (pkNib 0x4#4 group) (pkNib 0xB#4 channel) b2 b3)
  | .m2ProgramChange group channel b2 b3 => .word (pkWord (pkNib 0x4#4 group) (pkNib 0xC#4 channel) b2 b3)
  | .m2ChannelPressure group channel b2 b3 => .word (pkWord (pkNib 0x4#4 group) (pkNib 0xD#4 channel) b2 b3)
  | .m2PitchBend group channel b2 b3 => .word (pkWord (pkNib 0x4#4 group) (pkNib 0xE#4 channel) b2 b3)
  | .m2PnManagement group channel b2 b3 => .word (pkWord (pkNib 0x4#4 group) (pkNib 0xF#4 channel) b2 b3)
  | .d128 group rest => .word (pkTop 0x5#4 group rest)
  | .unrecMt0 group rest => .word (pkTop 0x0#4 group rest)
  | .unrecMt6 group rest => .word (pkTop 0x6#4 group rest)
  | .unrecMt7 group rest => .word (pkTop 0x7#4 group rest)
  | .unrecMt8 group rest => .word (pkTop 0x8#4 group rest)
  | .unrecMt9 group rest => .word (pkTop 0x9#4 group rest)
  | .unrecMtA group rest => .word (pkTop 0xA#4 group rest)
  | .unrecMtB group rest => .word (pkTop 0xB#4 group rest)
  | .unrecMtC group rest => .word (pkTop 0xC#4 group rest)
  | .unrecMtD group rest => .word (pkTop 0xD#4 group rest)
  | .unrecMtE group rest => .word (pkTop 0xE#4 group rest)
  | .unrecMtF group rest => .word (pkTop 0xF#4 group rest)
  | .m1Reset target noz => .op ⟨0x0#4, { Ports.zero with target := target, noz := noz }⟩
  | .cfgWrite inst v => .op ⟨0x1#4, { Ports.zero with inst := inst, flag := v }⟩
  | .m1Packet inst bytes timestamp => .op ⟨0x2#4, { Ports.zero with inst := inst, bytes := bytes, timestamp := timestamp }⟩
  | .sx7FromBytes bytes group => .op ⟨0x3#4, { Ports.zero with bytes := bytes, group := group }⟩
  | .m2Decode words timestamp protocol => .op ⟨0x4#4, { Ports.zero with words := words, timestamp := timestamp, protocol := protocol }⟩
  | .packM1 event => .op ⟨0x5#4, { Ports.zero with event := event }⟩
  | .packUmp event protocol => .op ⟨0x6#4, { Ports.zero with event := event, protocol := protocol }⟩
  | .bp32Enc value => .op ⟨0x7#4, { Ports.zero with value := value }⟩
  | .bp32Dec raw => .op ⟨0x8#4, { Ports.zero with raw := raw }⟩
  | .u4Check x => .op ⟨0x9#4, { Ports.zero with int := x }⟩
  | .u7Check x => .op ⟨0xA#4, { Ports.zero with int := x }⟩
  | .mfrValid m => .op ⟨0xB#4, { Ports.zero with mfr := m }⟩
  | .evMake raw => .op ⟨0xC#4, { Ports.zero with rawEvent := raw }⟩
  | .evEq a b => .op ⟨0xD#4, { Ports.zero with event := a, event2 := b }⟩
  | .m1Abandon inst => .op ⟨0xE#4, { Ports.zero with inst := inst }⟩
  | .opReservedF => .op ⟨0xF#4, Ports.zero⟩

/-! ### The opcode table -/

/-- The formats of the opcode table (R84). -/
inductive Fmt
  | m1b | sys1 | cv1 | sx7 | cv2 | d128 | unrec | op
deriving DecidableEq, Repr

/-- A row of the opcode table (R84): a byte or word `x` is the row's when `x & mask = pattern`. Rows of 8 and 4 bits stand in the low
bits. -/
structure Row where
  mnemonic : String
  fmt      : Fmt
  mask     : Word
  pattern  : Word
deriving DecidableEq, Repr

/-- `(x & mask) = match` of R84, on the kind of input the row's format is for. -/
def Row.fits (r : Row) : Encoded → Bool
  | .byte b => decide (r.fmt = .m1b) && decide (b.setWidth 32 &&& r.mask = r.pattern)
  | .word w => decide (r.fmt ≠ .m1b) && decide (r.fmt ≠ .op) && decide (w &&& r.mask = r.pattern)
  | .op q => decide (r.fmt = .op) && decide (q.opsel.setWidth 32 &&& r.mask = r.pattern)

/-- The rows of format `M1B`. -/
def tableM1B : List Row :=
  [ ⟨"DATA", .m1b, 0x00000080#32, 0x00000000#32⟩
  , ⟨"NOTE_OFF", .m1b, 0x000000F0#32, 0x00000080#32⟩
  , ⟨"NOTE_ON", .m1b, 0x000000F0#32, 0x00000090#32⟩
  , ⟨"POLY_PRESSURE", .m1b, 0x000000F0#32, 0x000000A0#32⟩
  , ⟨"CONTROL_CHANGE", .m1b, 0x000000F0#32, 0x000000B0#32⟩
  , ⟨"PROGRAM_CHANGE", .m1b, 0x000000F0#32, 0x000000C0#32⟩
  , ⟨"CHANNEL_PRESSURE", .m1b, 0x000000F0#32, 0x000000D0#32⟩
  , ⟨"PITCH_BEND", .m1b, 0x000000F0#32, 0x000000E0#32⟩
  , ⟨"SOX", .m1b, 0x000000FF#32, 0x000000F0#32⟩
  , ⟨"MTC_QF", .m1b, 0x000000FF#32, 0x000000F1#32⟩
  , ⟨"SONG_POS", .m1b, 0x000000FF#32, 0x000000F2#32⟩
  , ⟨"SONG_SEL", .m1b, 0x000000FF#32, 0x000000F3#32⟩
  , ⟨"UNDEF_F4", .m1b, 0x000000FF#32, 0x000000F4#32⟩
  , ⟨"UNDEF_F5", .m1b, 0x000000FF#32, 0x000000F5#32⟩
  , ⟨"TUNE_REQ", .m1b, 0x000000FF#32, 0x000000F6#32⟩
  , ⟨"EOX", .m1b, 0x000000FF#32, 0x000000F7#32⟩
  , ⟨"CLOCK", .m1b, 0x000000FF#32, 0x000000F8#32⟩
  , ⟨"UNDEF_F9", .m1b, 0x000000FF#32, 0x000000F9#32⟩
  , ⟨"START", .m1b, 0x000000FF#32, 0x000000FA#32⟩
  , ⟨"CONTINUE", .m1b, 0x000000FF#32, 0x000000FB#32⟩
  , ⟨"STOP", .m1b, 0x000000FF#32, 0x000000FC#32⟩
  , ⟨"UNDEF_FD", .m1b, 0x000000FF#32, 0x000000FD#32⟩
  , ⟨"ACTIVE_SENSE", .m1b, 0x000000FF#32, 0x000000FE#32⟩
  , ⟨"SYS_RESET", .m1b, 0x000000FF#32, 0x000000FF#32⟩ ]

/-- The rows of format `SYS1`. -/
def tableSys1 : List Row :=
  [ ⟨"UMP_MTC_QF", .sys1, 0xF0FF0000#32, 0x10F10000#32⟩
  , ⟨"UMP_SONG_POS", .sys1, 0xF0FF0000#32, 0x10F20000#32⟩
  , ⟨"UMP_SONG_SEL", .sys1, 0xF0FF0000#32, 0x10F30000#32⟩
  , ⟨"UMP_TUNE_REQ", .sys1, 0xF0FF0000#32, 0x10F60000#32⟩
  , ⟨"UMP_CLOCK", .sys1, 0xF0FF0000#32, 0x10F80000#32⟩
  , ⟨"UMP_START", .sys1, 0xF0FF0000#32, 0x10FA0000#32⟩
  , ⟨"UMP_CONTINUE", .sys1, 0xF0FF0000#32, 0x10FB0000#32⟩
  , ⟨"UMP_STOP", .sys1, 0xF0FF0000#32, 0x10FC0000#32⟩
  , ⟨"UMP_ACTIVE_SENSE", .sys1, 0xF0FF0000#32, 0x10FE0000#32⟩
  , ⟨"UMP_SYS_RESET", .sys1, 0xF0FF0000#32, 0x10FF0000#32⟩
  , ⟨"SYS1_UNREC_00_7F", .sys1, 0xF0800000#32, 0x10000000#32⟩
  , ⟨"SYS1_UNREC_80_BF", .sys1, 0xF0C00000#32, 0x10800000#32⟩
  , ⟨"SYS1_UNREC_C0_DF", .sys1, 0xF0E00000#32, 0x10C00000#32⟩
  , ⟨"SYS1_UNREC_E0_EF", .sys1, 0xF0F00000#32, 0x10E00000#32⟩
  , ⟨"SYS1_UNREC_F0", .sys1, 0xF0FF0000#32, 0x10F00000#32⟩
  , ⟨"SYS1_UNREC_F4", .sys1, 0xF0FF0000#32, 0x10F40000#32⟩
  , ⟨"SYS1_UNREC_F5", .sys1, 0xF0FF0000#32, 0x10F50000#32⟩
  , ⟨"SYS1_UNREC_F7", .sys1, 0xF0FF0000#32, 0x10F70000#32⟩
  , ⟨"SYS1_UNREC_F9", .sys1, 0xF0FF0000#32, 0x10F90000#32⟩
  , ⟨"SYS1_UNREC_FD", .sys1, 0xF0FF0000#32, 0x10FD0000#32⟩ ]

/-- The rows of format `CV1`. -/
def tableCv1 : List Row :=
  [ ⟨"UMP_NOTE_OFF", .cv1, 0xF0F00000#32, 0x20800000#32⟩
  , ⟨"UMP_NOTE_ON", .cv1, 0xF0F00000#32, 0x20900000#32⟩
  , ⟨"UMP_POLY_PRESSURE", .cv1, 0xF0F00000#32, 0x20A00000#32⟩
  , ⟨"UMP_CONTROL_CHANGE", .cv1, 0xF0F00000#32, 0x20B00000#32⟩
  , ⟨"UMP_PROGRAM_CHANGE", .cv1, 0xF0F00000#32, 0x20C00000#32⟩
  , ⟨"UMP_CHANNEL_PRESSURE", .cv1, 0xF0F00000#32, 0x20D00000#32⟩
  , ⟨"UMP_PITCH_BEND", .cv1, 0xF0F00000#32, 0x20E00000#32⟩
  , ⟨"CV1_UNREC_0_7", .cv1, 0xF0800000#32, 0x20000000#32⟩
  , ⟨"CV1_UNREC_F", .cv1, 0xF0F00000#32, 0x20F00000#32⟩ ]

/-- The rows of format `SX7`. -/
def tableSx7 : List Row :=
  [ ⟨"SX7_COMPLETE", .sx7, 0xF0F00000#32, 0x30000000#32⟩
  , ⟨"SX7_START", .sx7, 0xF0F00000#32, 0x30100000#32⟩
  , ⟨"SX7_CONTINUE", .sx7, 0xF0F00000#32, 0x30200000#32⟩
  , ⟨"SX7_END", .sx7, 0xF0F00000#32, 0x30300000#32⟩
  , ⟨"SX7_RESERVED_4_7", .sx7, 0xF0C00000#32, 0x30400000#32⟩
  , ⟨"SX7_RESERVED_8_F", .sx7, 0xF0800000#32, 0x30800000#32⟩ ]

/-- The rows of format `CV2`. -/
def tableCv2 : List Row :=
  [ ⟨"M2_REG_PN_CTRL", .cv2, 0xF0F00000#32, 0x40000000#32⟩
  , ⟨"M2_ASG_PN_CTRL", .cv2, 0xF0F00000#32, 0x40100000#32⟩
  , ⟨"M2_REG_CTRL", .cv2, 0xF0F00000#32, 0x40200000#32⟩
  , ⟨"M2_ASG_CTRL", .cv2, 0xF0F00000#32, 0x40300000#32⟩
  , ⟨"M2_REL_REG_CTRL", .cv2, 0xF0F00000#32, 0x40400000#32⟩
  , ⟨"M2_REL_ASG_CTRL", .cv2, 0xF0F00000#32, 0x40500000#32⟩
  , ⟨"M2_PN_PITCH_BEND", .cv2, 0xF0F00000#32, 0x40600000#32⟩
  , ⟨"M2_RESERVED_7", .cv2, 0xF0F00000#32, 0x40700000#32⟩
  , ⟨"M2_NOTE_OFF", .cv2, 0xF0F00000#32, 0x40800000#32⟩
  , ⟨"M2_NOTE_ON", .cv2, 0xF0F00000#32, 0x40900000#32⟩
  , ⟨"M2_POLY_PRESSURE", .cv2, 0xF0F00000#32, 0x40A00000#32⟩
  , ⟨"M2_CONTROL_CHANGE", .cv2, 0xF0F00000#32, 0x40B00000#32⟩
  , ⟨"M2_PROGRAM_CHANGE", .cv2, 0xF0F00000#32, 0x40C00000#32⟩
  , ⟨"M2_CHANNEL_PRESSURE", .cv2, 0xF0F00000#32, 0x40D00000#32⟩
  , ⟨"M2_PITCH_BEND", .cv2, 0xF0F00000#32, 0x40E00000#32⟩
  , ⟨"M2_PN_MANAGEMENT", .cv2, 0xF0F00000#32, 0x40F00000#32⟩ ]

/-- The rows of format `D128`. -/
def tableD128 : List Row :=
  [ ⟨"D128", .d128, 0xF0000000#32, 0x50000000#32⟩ ]

/-- The rows of format `UNREC`. -/
def tableUnrec : List Row :=
  [ ⟨"UNREC_MT_0", .unrec, 0xF0000000#32, 0x00000000#32⟩
  , ⟨"UNREC_MT_6", .unrec, 0xF0000000#32, 0x60000000#32⟩
  , ⟨"UNREC_MT_7", .unrec, 0xF0000000#32, 0x70000000#32⟩
  , ⟨"UNREC_MT_8", .unrec, 0xF0000000#32, 0x80000000#32⟩
  , ⟨"UNREC_MT_9", .unrec, 0xF0000000#32, 0x90000000#32⟩
  , ⟨"UNREC_MT_A", .unrec, 0xF0000000#32, 0xA0000000#32⟩
  , ⟨"UNREC_MT_B", .unrec, 0xF0000000#32, 0xB0000000#32⟩
  , ⟨"UNREC_MT_C", .unrec, 0xF0000000#32, 0xC0000000#32⟩
  , ⟨"UNREC_MT_D", .unrec, 0xF0000000#32, 0xD0000000#32⟩
  , ⟨"UNREC_MT_E", .unrec, 0xF0000000#32, 0xE0000000#32⟩
  , ⟨"UNREC_MT_F", .unrec, 0xF0000000#32, 0xF0000000#32⟩ ]

/-- The rows of format `OP`. -/
def tableOp : List Row :=
  [ ⟨"M1.RESET", .op, 0x0000000F#32, 0x00000000#32⟩
  , ⟨"CFG.WRITE", .op, 0x0000000F#32, 0x00000001#32⟩
  , ⟨"M1.PACKET", .op, 0x0000000F#32, 0x00000002#32⟩
  , ⟨"SX7.FROMBYTES", .op, 0x0000000F#32, 0x00000003#32⟩
  , ⟨"M2.DECODE", .op, 0x0000000F#32, 0x00000004#32⟩
  , ⟨"PACK.M1", .op, 0x0000000F#32, 0x00000005#32⟩
  , ⟨"PACK.UMP", .op, 0x0000000F#32, 0x00000006#32⟩
  , ⟨"BP32.ENC", .op, 0x0000000F#32, 0x00000007#32⟩
  , ⟨"BP32.DEC", .op, 0x0000000F#32, 0x00000008#32⟩
  , ⟨"U4.CHECK", .op, 0x0000000F#32, 0x00000009#32⟩
  , ⟨"U7.CHECK", .op, 0x0000000F#32, 0x0000000A#32⟩
  , ⟨"MFR.VALID", .op, 0x0000000F#32, 0x0000000B#32⟩
  , ⟨"EV.MAKE", .op, 0x0000000F#32, 0x0000000C#32⟩
  , ⟨"EV.EQ", .op, 0x0000000F#32, 0x0000000D#32⟩
  , ⟨"M1.ABANDON", .op, 0x0000000F#32, 0x0000000E#32⟩
  , ⟨"OP_RESERVED_F", .op, 0x0000000F#32, 0x0000000F#32⟩ ]

/-- The rows that match a UMP first word. -/
def tableUmp : List Row := tableSys1 ++ tableCv1 ++ tableSx7 ++ tableCv2 ++ tableD128 ++ tableUnrec

/-- The opcode table (R84). -/
def opcodeTable : List Row := tableM1B ++ tableUmp ++ tableOp

/-- The row of an instruction, by mnemonic. -/
def Instr.mnemonic : Instr → String
  | .data _ => "DATA"
  | .noteOff _ => "NOTE_OFF"
  | .noteOn _ => "NOTE_ON"
  | .polyPressure _ => "POLY_PRESSURE"
  | .controlChange _ => "CONTROL_CHANGE"
  | .programChange _ => "PROGRAM_CHANGE"
  | .channelPressure _ => "CHANNEL_PRESSURE"
  | .pitchBend _ => "PITCH_BEND"
  | .sox => "SOX"
  | .mtcQf => "MTC_QF"
  | .songPos => "SONG_POS"
  | .songSel => "SONG_SEL"
  | .undefF4 => "UNDEF_F4"
  | .undefF5 => "UNDEF_F5"
  | .tuneReq => "TUNE_REQ"
  | .eox => "EOX"
  | .clock => "CLOCK"
  | .undefF9 => "UNDEF_F9"
  | .start => "START"
  | .continue_ => "CONTINUE"
  | .stop => "STOP"
  | .undefFD => "UNDEF_FD"
  | .activeSense => "ACTIVE_SENSE"
  | .sysReset => "SYS_RESET"
  | .umpMtcQf _ _ _ => "UMP_MTC_QF"
  | .umpSongPos _ _ _ => "UMP_SONG_POS"
  | .umpSongSel _ _ _ => "UMP_SONG_SEL"
  | .umpTuneReq _ _ _ => "UMP_TUNE_REQ"
  | .umpClock _ _ _ => "UMP_CLOCK"
  | .umpStart _ _ _ => "UMP_START"
  | .umpContinue _ _ _ => "UMP_CONTINUE"
  | .umpStop _ _ _ => "UMP_STOP"
  | .umpActiveSense _ _ _ => "UMP_ACTIVE_SENSE"
  | .umpSysReset _ _ _ => "UMP_SYS_RESET"
  | .sys1Unrec00_7F _ _ _ _ => "SYS1_UNREC_00_7F"
  | .sys1Unrec80_BF _ _ _ _ => "SYS1_UNREC_80_BF"
  | .sys1UnrecC0_DF _ _ _ _ => "SYS1_UNREC_C0_DF"
  | .sys1UnrecE0_EF _ _ _ _ => "SYS1_UNREC_E0_EF"
  | .sys1UnrecF0 _ _ _ => "SYS1_UNREC_F0"
  | .sys1UnrecF4 _ _ _ => "SYS1_UNREC_F4"
  | .sys1UnrecF5 _ _ _ => "SYS1_UNREC_F5"
  | .sys1UnrecF7 _ _ _ => "SYS1_UNREC_F7"
  | .sys1UnrecF9 _ _ _ => "SYS1_UNREC_F9"
  | .sys1UnrecFD _ _ _ => "SYS1_UNREC_FD"
  | .umpNoteOff _ _ _ _ => "UMP_NOTE_OFF"
  | .umpNoteOn _ _ _ _ => "UMP_NOTE_ON"
  | .umpPolyPressure _ _ _ _ => "UMP_POLY_PRESSURE"
  | .umpControlChange _ _ _ _ => "UMP_CONTROL_CHANGE"
  | .umpProgramChange _ _ _ _ => "UMP_PROGRAM_CHANGE"
  | .umpChannelPressure _ _ _ _ => "UMP_CHANNEL_PRESSURE"
  | .umpPitchBend _ _ _ _ => "UMP_PITCH_BEND"
  | .cv1Unrec0_7 _ _ _ _ _ => "CV1_UNREC_0_7"
  | .cv1UnrecF _ _ _ _ => "CV1_UNREC_F"
  | .sx7Complete _ _ _ _ => "SX7_COMPLETE"
  | .sx7Start _ _ _ _ => "SX7_START"
  | .sx7Continue _ _ _ _ => "SX7_CONTINUE"
  | .sx7End _ _ _ _ => "SX7_END"
  | .sx7Reserved4_7 _ _ _ _ _ => "SX7_RESERVED_4_7"
  | .sx7Reserved8_F _ _ _ _ _ => "SX7_RESERVED_8_F"
  | .m2RegPnCtrl _ _ _ _ => "M2_REG_PN_CTRL"
  | .m2AsgPnCtrl _ _ _ _ => "M2_ASG_PN_CTRL"
  | .m2RegCtrl _ _ _ _ => "M2_REG_CTRL"
  | .m2AsgCtrl _ _ _ _ => "M2_ASG_CTRL"
  | .m2RelRegCtrl _ _ _ _ => "M2_REL_REG_CTRL"
  | .m2RelAsgCtrl _ _ _ _ => "M2_REL_ASG_CTRL"
  | .m2PnPitchBend _ _ _ _ => "M2_PN_PITCH_BEND"
  | .m2Reserved7 _ _ _ _ => "M2_RESERVED_7"
  | .m2NoteOff _ _ _ _ => "M2_NOTE_OFF"
  | .m2NoteOn _ _ _ _ => "M2_NOTE_ON"
  | .m2PolyPressure _ _ _ _ => "M2_POLY_PRESSURE"
  | .m2ControlChange _ _ _ _ => "M2_CONTROL_CHANGE"
  | .m2ProgramChange _ _ _ _ => "M2_PROGRAM_CHANGE"
  | .m2ChannelPressure _ _ _ _ => "M2_CHANNEL_PRESSURE"
  | .m2PitchBend _ _ _ _ => "M2_PITCH_BEND"
  | .m2PnManagement _ _ _ _ => "M2_PN_MANAGEMENT"
  | .d128 _ _ => "D128"
  | .unrecMt0 _ _ => "UNREC_MT_0"
  | .unrecMt6 _ _ => "UNREC_MT_6"
  | .unrecMt7 _ _ => "UNREC_MT_7"
  | .unrecMt8 _ _ => "UNREC_MT_8"
  | .unrecMt9 _ _ => "UNREC_MT_9"
  | .unrecMtA _ _ => "UNREC_MT_A"
  | .unrecMtB _ _ => "UNREC_MT_B"
  | .unrecMtC _ _ => "UNREC_MT_C"
  | .unrecMtD _ _ => "UNREC_MT_D"
  | .unrecMtE _ _ => "UNREC_MT_E"
  | .unrecMtF _ _ => "UNREC_MT_F"
  | .m1Reset _ _ => "M1.RESET"
  | .cfgWrite _ _ => "CFG.WRITE"
  | .m1Packet _ _ _ => "M1.PACKET"
  | .sx7FromBytes _ _ => "SX7.FROMBYTES"
  | .m2Decode _ _ _ => "M2.DECODE"
  | .packM1 _ => "PACK.M1"
  | .packUmp _ _ => "PACK.UMP"
  | .bp32Enc _ => "BP32.ENC"
  | .bp32Dec _ => "BP32.DEC"
  | .u4Check _ => "U4.CHECK"
  | .u7Check _ => "U7.CHECK"
  | .mfrValid _ => "MFR.VALID"
  | .evMake _ => "EV.MAKE"
  | .evEq _ _ => "EV.EQ"
  | .m1Abandon _ => "M1.ABANDON"
  | .opReservedF => "OP_RESERVED_F"

end Sys2Proof
end

