-- ==== Sys2Proof/Machine/State.lean ====
section
/-! DEFINITION. The state of the block as plain data, the outcomes an operation returns, and the reasons a step can stop. -/

namespace Sys2Proof.Machine

/-! ### Errors (`60_exceptions.md`) -/

/-- The six causes of `MalformedMessage` (R321). -/
inductive Cause
  | empty
  | startMissing
  | manufacturerAbsent
  | terminatorIncorrect
  | endMisplaced
  | statusInPayload
deriving DecidableEq, Repr

/-- The cause codes of R321. -/
def Cause.code : Cause → Nat
  | .empty => 1
  | .startMissing => 2
  | .manufacturerAbsent => 3
  | .terminatorIncorrect => 4
  | .endMisplaced => 5
  | .statusInPayload => 6

/-- The type whose range was violated (R322). -/
inductive RangeType
  | uint4 | uint7 | uint8 | uint14 | uint16 | uint32 | bipolar32
deriving DecidableEq, Repr

/-- The field an `OutOfRangeValue` of `EV.MAKE` names (R322): the field names of R141 to R144. -/
inductive Field
  | note | velocity | amount | controller | value | program | dataByte | midiBeat | number | manufacturer | data
  | index | bank | delta | attrType | attrData | channel | group
deriving DecidableEq, Repr

/-- The offending value (R322): an integer, or the `NaN` of `BP32.ENC` (R112). -/
inductive BadValue
  | int (x : Int)
  | nan
deriving DecidableEq, Repr

/-- The two error types (R321, R322). -/
inductive CodecError
  | malformedMessage (cause : Cause)
  | outOfRangeValue (type : RangeType) (field : Option Field) (value : BadValue)
deriving DecidableEq, Repr

/-- The error type codes of R322. -/
def CodecError.code : CodecError → Nat
  | .malformedMessage _ => 1
  | .outOfRangeValue _ _ _ => 2

/-- Why input was passed over (R323). A label: the machine writes it nowhere (log 13). -/
inductive SkipReason
  | orphanDataByte | undefinedStatus | endWithoutStart | malformedSysEx | emptyPacket | unrecognizedMessageType | shortGroup
  | fieldOutOfRange | unrecognizedStatus | badByteCount | multiSegmentSysEx
deriving DecidableEq, Repr

/-! ### The M1P instance -/

/-- The two states of the parser's state machine (R21). -/
inductive Mode
  | idle
  | collectingSysEx
deriving DecidableEq, Repr

/-- The message being assembled (R26): a status byte and the data bytes received for it so far. -/
structure Pending where
  st   : Byte
  data : List U7
deriving DecidableEq, Repr

/-- One M1P instance: the elements of R20's table. `pend`, `cur` and `out` are rewritten at every packet start (R161). -/
structure Parser where
  mode  : Mode            -- MODE
  sxbuf : List U7         -- SXBUF
  rs    : Option Byte     -- RS
  noz   : Bool            -- CFG.NOZ
  pend  : Option Pending  -- PEND
  cur   : Nat             -- CUR
  out   : List Event      -- OUT
deriving DecidableEq, Repr

/-- A newly created instance with the given `CFG.NOZ` (R34, R350, R351). -/
def Parser.fresh (noz : Bool) : Parser :=
  { mode := .idle, sxbuf := [], rs := none, noz := noz, pend := none, cur := 0, out := [] }

/-! ### Outcomes returned to the host -/

/-- A value delivered at a binary64 result port (R114): sign and magnitude, so that `+0.0` has a form of its own. -/
structure Binary64 where
  negative  : Bool
  magnitude : Rat
deriving DecidableEq, Repr

/-- The outcome of one operation as the host receives it (R11, R81, R325, R362). -/
inductive Reply
  | parser (handle : Nat)                     -- M1.RESET: the instance
  | done                                      -- CFG.WRITE, M1.ABANDON: no result value
  | events (es : List Event)                  -- M1.PACKET
  | event (e : Event)                         -- SX7.FROMBYTES, EV.MAKE
  | decoded (e : Option Event)                -- M2.DECODE
  | bytes (bs : List Byte)                    -- PACK.M1
  | groups (gs : List (List Word))            -- PACK.UMP
  | raw (w : U32)                             -- BP32.ENC
  | value (q : Rat) (port64 : Binary64)       -- BP32.DEC: the exact rational, and what a binary64 port delivers
  | uint4 (v : U4)                            -- U4.CHECK
  | uint7 (v : U7)                            -- U7.CHECK
  | bit (b : Bool)                            -- MFR.VALID, EV.EQ
  | error (e : CodecError)                    -- a raised error (R320)
deriving DecidableEq, Repr

/-! ### The block -/

/-- The operation in progress (R14, R162). `PKT` and `WPKT` are present only for the length of one operation (R31). -/
inductive Phase
  | quiescent                                 -- between operations (R362)
  | packet (handle : Nat) (pkt : List Byte)   -- M1.PACKET on an instance, PKT
  | group (wpkt : List Word)                  -- M2.DECODE, WPKT
deriving DecidableEq, Repr

/-- The state of the block.

* `params`: the parameters of R6; no step writes them (log 7).
* `parsers`: the M1P instances (R35, R337); the place in the list is the handle, and an abandoned instance leaves `none` (log 4).
* `phase`: the operation in progress.
* `requests`: the operations issued and not yet begun, oldest first (log 1).
* `replies`: the outcomes returned, oldest first; nothing in the block reads them (R29, R362, log 1). -/
structure State where
  params   : Params
  parsers  : List (Option Parser)
  phase    : Phase
  requests : List Request
  replies  : List Reply
deriving DecidableEq, Repr

/-- Why the model has no step. -/
inductive Fault
  /-- An operation names an M1P instance that was never created or was abandoned: "No operation may be applied to the instance
  afterwards" (R353). Raised by `M1.RESET` of a named instance, `CFG.WRITE`, `M1.PACKET`, `M1.ABANDON`, and by a byte of a packet. Safe. -/
  | noSuchParser
  /-- An operation begins while another is in progress (R355; I6: "stuck"). Raised by `M1.RESET`, `CFG.WRITE`, `M1.PACKET`, `M2.DECODE`,
  `M1.ABANDON`; never by `step`, which fetches an operation only when the block is quiescent. Safe. -/
  | operationInProgress
  /-- A row of a packet is executed with no such packet in progress. Raised by the `M1B` rows outside `M1.PACKET` and by the UMP rows
  outside `M2.DECODE`; never by `step`, which fetches a row only from an open packet. Safe. -/
  | noPacketOpen
deriving DecidableEq, Repr

/-- The inputs for which the model makes no claim. -/
inductive Refusal
  /-- An instruction of the opcode table that has no meaning yet; raised by `exec` only. Safe. -/
  | notModelled (mnemonic : String)
  /-- `REFUSED(Data128NotSpecified)` (R267, R324): message type `0x5` with at least 4 words; raised by the `D128` row. Safe. -/
  | data128NotSpecified
  /-- `REFUSED(NoMidi1Form)` (R284, R324): a MIDI 2.0 variant given to `PACK.M1`. Safe. -/
  | noMidi1Form
  /-- `REFUSED(NoProtocol1Form)` (R291, R324): a MIDI 2.0 variant given to `PACK.UMP` under `P1_0`. Safe. -/
  | noProtocol1Form
  /-- `REFUSED(ReservedOperation)` (R81, R324): `OPSEL` `0xF`. Safe. -/
  | reservedOperation
deriving DecidableEq, Repr

/-- The outcome of a meaning. -/
abbrev Result := Host.Outcome State Fault Refusal

/-- The block right after reset: one fresh M1P instance (R34, R350; log 3), the spec's default parameters (R6), no operation issued. -/
def State.reset : State :=
  { params := Params.default, parsers := [some (Parser.fresh Config.nozReset)], phase := .quiescent, requests := [], replies := [] }

end Sys2Proof.Machine
end

