-- ==== Sys2Proof/Machine/Flags.lean ====
section
/-! DEFINITION. The block has no condition codes (`10_state.md` R29). What its rules call "flags written" are writes of `MODE`, `RS`, `PEND`,
`SXBUF`, `OUT`, `CUR` and `CFG.NOZ` of an M1P instance; this file has each of those writes once. -/

namespace Sys2Proof.Machine

/-- `EMIT(e)` (R28): `OUT <- OUT ++ [e]`. -/
def emit (e : Event) (p : Parser) : Parser := { p with out := p.out ++ [e] }

/-- `SKIP(reason)` (R323): writes nothing. -/
def skip (_reason : SkipReason) (p : Parser) : Parser := p

/-- `CUR <- CUR + 1` (R162). -/
def advance (p : Parser) : Parser := { p with cur := p.cur + 1 }

/-- `RS <- none; PEND <- none`: the common part of every system-common byte (R179 to R186). -/
def cancelMessage (p : Parser) : Parser := { p with rs := none, pend := none }

/-- `RS <- none; PEND <- (st, [])` (R180 to R182). -/
def openSystemMessage (st : Byte) (p : Parser) : Parser := { p with rs := none, pend := some ⟨st, []⟩ }

/-- `PEND <- (b, [])`, and `RS <- b` unless `RS_SCOPE = NONE` (R169). -/
def openChannelMessage (scope : RsScope) (st : Byte) (p : Parser) : Parser :=
  { p with pend := some ⟨st, []⟩, rs := if scope = .none then p.rs else some st }

/-- The entry to `CollectingSysEx` (R179). -/
def openSysEx (p : Parser) : Parser := { cancelMessage p with mode := .collectingSysEx, sxbuf := [] }

/-- `MODE <- Idle; SXBUF <- []` (R190). -/
def closeSysEx (p : Parser) : Parser := { p with mode := .idle, sxbuf := [] }

/-- `SXBUF <- SXBUF ++ [b]` (R42, R188). -/
def collect (v : U7) (p : Parser) : Parser := { p with sxbuf := p.sxbuf ++ [v] }

/-- `CFG.NOZ <- v` (R206). -/
def writeNoz (v : Bool) (p : Parser) : Parser := { p with noz := v }

/-- The start of a packet (R161, R163): `OUT <- []`, `PEND <- none`, `CUR <- 0`, and `RS <- none` unless `RS_SCOPE = CONNECTION`. -/
def startPacket (scope : RsScope) (p : Parser) : Parser :=
  { p with out := [], pend := none, cur := 0, rs := if scope = .connection then p.rs else none }

/-- The end of a packet (R161, R164): `PEND <- none`; an incomplete message is dropped. -/
def endPacket (p : Parser) : Parser := { p with pend := none }

end Sys2Proof.Machine
end

