-- ==== Sys2Proof/Machine/Ops.lean ====
section
/-! DEFINITION. The shared operations: access to the M1P instances, returning an outcome, raising an error, the byte step, the word-group
step, and fetching. -/

namespace Sys2Proof.Machine

/-! ### Instances -/

/-- The instance with handle `h`, if it exists. -/
def State.parser? (s : State) (h : Nat) : Option Parser := (s.parsers[h]?).join

/-- Write the place of handle `h`: an instance, or `none` when it is abandoned. -/
def State.setParser (s : State) (h : Nat) (p : Option Parser) : State := { s with parsers := s.parsers.set h p }

/-- Run `k` on the instance with handle `h`; an instance that does not exist is a fault (R353). -/
def withParser (s : State) (h : Nat) (k : Parser → Result) : Result :=
  match s.parser? h with
  | some p => k p
  | none => .fault .noSuchParser

/-- Begin an operation on the block's packet or instance state: only when no other is in progress (R14, R355). -/
def whenQuiescent (s : State) (k : Result) : Result :=
  match s.phase with
  | .quiescent => k
  | .packet _ _ => .fault .operationInProgress
  | .group _ => .fault .operationInProgress

/-! ### Outcomes -/

/-- Return an outcome to the host (R11, R362). -/
def State.reply (s : State) (r : Reply) : State := { s with replies := s.replies ++ [r] }

/-- End the operation in progress. -/
def State.finish (s : State) : State := { s with phase := .quiescent }

/-- An operation that ends with a result value and no other effect. -/
def return_ (s : State) (r : Reply) : Result := .next (s.reply r)

/-- `raise X(info)` (R320, R327): the block's form of taking an exception. The error is the operation's outcome, handed to the host, and
nothing else is written; there is no saved state, no mode change, no handler. The host goes on with its next operation, so there is
nothing to return from (R329). -/
def raise (s : State) (e : CodecError) : Result := .next (s.reply (.error e))

/-- End with a value or an error. -/
def returnOrRaise {α : Type} (s : State) (f : α → Reply) : Except CodecError α → Result
  | .ok a => return_ s (f a)
  | .error e => raise s e

/-! ### The byte step of `M1.PACKET` -/

/-- A byte row of R162 in progress: apply the row's effect to the instance, then `CUR <- CUR + 1`. -/
def byteRow (s : State) (effect : Params → Parser → Parser) : Result :=
  match s.phase with
  | .packet h _ => withParser s h fun p => .next (s.setParser h (some (advance (effect s.params p))))
  | .quiescent => .fault .noPacketOpen
  | .group _ => .fault .noPacketOpen

/-- The end of `M1.PACKET` (R161, R164): `PEND <- none; return OUT`. -/
def finishPacket (s : State) (h : Nat) : Result :=
  withParser s h fun p => .next (((s.setParser h (some (endPacket p))).finish).reply (.events p.out))

/-! ### The word-group step of `M2.DECODE` -/

/-- The outcomes of a message rule of unit M2D (R221). -/
inductive UmpResult
  | event (e : Event)
  | skip (reason : SkipReason)
  | refused (reason : Refusal)
deriving DecidableEq, Repr

/-- The end of `M2.DECODE` (R221): `some(e)`, `none`, or `REFUSED`. -/
def finishDecode (s : State) : UmpResult → Result
  | .event e => .next (s.finish.reply (.decoded (some e)))
  | .skip _ => .next (s.finish.reply (.decoded none))
  | .refused r => .refused r

/-- A first word of a message type with `n` words (R221, R222): a packet with fewer is skipped; of the others the row reads `WPKT`
through `read`. -/
def umpRow (s : State) (n : Nat) (read : List Word → UmpResult) : Result :=
  match s.phase with
  | .group ws => finishDecode s (if ws.length < n then .skip .shortGroup else read ws)
  | .quiescent => .fault .noPacketOpen
  | .packet _ _ => .fault .noPacketOpen

/-- `w1 <- WPKT[1]` (R221). Read only where `nwords` is at least 2. -/
def word1 (ws : List Word) : Word := ws.getD 1 0#32

/-- A field declared UInt7 taken from a whole byte (R223): `SKIP(FieldOutOfRange)` where the byte is `0x80` or above. -/
def field7 (x : Byte) (k : U7 → UmpResult) : UmpResult :=
  match u7FromByte x with
  | some v => k v
  | none => .skip .fieldOutOfRange

/-! ### Fetching -/

/-- What the block does next. -/
inductive Fetched
  | wait                                -- no operation has been issued: the block stays quiescent (R362)
  | run (e : Encoded) (s : State)       -- an instruction, and the state it runs in
  | packetEnd (handle : Nat)            -- `CUR = len(PKT)`: `M1.PACKET` ends (R161)
  | stop (r : Fault)                    -- a packet in progress on an instance that does not exist

/-- Fetch (R27, R51, R162, R221): the next operation when the block is quiescent, `PKT[CUR]` during `M1.PACKET`, `WPKT[0]` during
`M2.DECODE`. -/
def fetch (s : State) : Fetched :=
  match s.phase with
  | .quiescent =>
    match s.requests with
    | [] => .wait
    | r :: rest => .run (.op r) { s with requests := rest }
  | .packet h pkt =>
    match s.parser? h with
    | none => .stop .noSuchParser
    | some p =>
      match pkt[p.cur]? with
      | some b => .run (.byte b) s
      | none => .packetEnd h
  | .group [] => .stop .noPacketOpen
  | .group (w :: _) => .run (.word w) s

end Sys2Proof.Machine
end

