-- ==== Sys2Proof/Machine/Control.lean ====
section
/-! DEFINITION. The operations on M1P instances and packets: `M1.RESET`, `CFG.WRITE`, `M1.PACKET`, `M2.DECODE`, `M1.ABANDON`, and the
reserved operation code. -/

namespace Sys2Proof.Machine

/-- `M1.RESET(noz)` (R350): create an instance, or bring an existing one back to the state of a new one. `CFG.NOZ` is the operand if
given, else `NOZ_RESET`. -/
def execM1Reset (target : Option Nat) (noz : Option Bool) (s : State) : Result :=
  let fresh := Parser.fresh (noz.getD Config.nozReset)
  whenQuiescent s <|
    match target with
    | none => .next ({ s with parsers := s.parsers ++ [some fresh] }.reply (.parser s.parsers.length))
    | some h => withParser s h fun _ => .next ((s.setParser h (some fresh)).reply (.parser h))

/-- `CFG.WRITE(inst, v)` (R206). -/
def execCfgWrite (h : Nat) (v : Bool) (s : State) : Result :=
  whenQuiescent s <| withParser s h fun p => .next ((s.setParser h (some (writeNoz v p))).reply .done)

/-- `M1.PACKET(inst, bytes, timestamp)` begins (R161, R163): the packet becomes `PKT` and its bytes are the next instructions; the outcome
is returned when `CUR` reaches its end (`finishPacket`; log 2). The timestamp is not read (R336). -/
def execM1Packet (h : Nat) (bytes : List Byte) (_timestamp : BitVec 64) (s : State) : Result :=
  whenQuiescent s <| withParser s h fun p =>
    .next { s.setParser h (some (startPacket s.params.rsScope p)) with phase := .packet h bytes }

/-- `M2.DECODE(words, timestamp, protocol)` begins (R221): an empty packet is skipped, any other becomes `WPKT` and its first word is the
next instruction (log 2). Neither `timestamp` nor `protocol` is read (R270, R271). -/
def execM2Decode (words : List Word) (_timestamp : BitVec 64) (_protocol : Protocol) (s : State) : Result :=
  whenQuiescent s <|
    match words with
    | [] => finishDecode s (.skip .emptyPacket)
    | w :: ws => .next { s with phase := .group (w :: ws) }

/-- `M1.ABANDON(inst)` (R353): the instance ceases to exist; no event is produced. -/
def execM1Abandon (h : Nat) (s : State) : Result :=
  whenQuiescent s <| withParser s h fun _ => .next ((s.setParser h none).reply .done)

/-- `OPSEL` `0xF` (R81, R324): `REFUSED(ReservedOperation)`. -/
def execOpReservedF (_s : State) : Result := .refused .reservedOperation

end Sys2Proof.Machine
end

