-- ==== Sys2Proof/Machine/Events.lean ====
section
/-! DEFINITION. Unit VPK, the range validators (`40_value_types.md` R100 to R104), and the construction and equality of Events
(`41_events.md` R145, R146). -/

namespace Sys2Proof.Machine

/-! ### Range validators -/

/-- The check of an `n`-bit type on a mathematical integer: it fails, and never clamps, masks or wraps (R100 to R102, R104). -/
def rangeCheck (n : Nat) (type : RangeType) (field : Option Field) (x : Int) : Except CodecError (BitVec n) :=
  if 0 ≤ x ∧ x ≤ 2 ^ n - 1 then .ok (BitVec.ofInt n x) else .error (.outOfRangeValue type field (.int x))

/-- `U4.CHECK(x)` (R100). -/
def u4Check (field : Option Field) (x : Int) : Except CodecError U4 := rangeCheck 4 .uint4 field x

/-- `U7.CHECK(x)` (R101). -/
def u7Check (field : Option Field) (x : Int) : Except CodecError U7 := rangeCheck 7 .uint7 field x

/-- `UN.CHECK(8, x)` (R102). -/
def unCheck8 (field : Option Field) (x : Int) : Except CodecError U8 := rangeCheck 8 .uint8 field x

/-- `UN.CHECK(14, x)` (R102). -/
def unCheck14 (field : Option Field) (x : Int) : Except CodecError U14 := rangeCheck 14 .uint14 field x

/-- `UN.CHECK(16, x)` (R102). -/
def unCheck16 (field : Option Field) (x : Int) : Except CodecError U16 := rangeCheck 16 .uint16 field x

/-- `UN.CHECK(32, x)` (R102). -/
def unCheck32 (field : Option Field) (x : Int) : Except CodecError U32 := rangeCheck 32 .uint32 field x

/-! ### Construction -/

/-- A `group` that is not given is 0 (R145). -/
def checkGroup : Option Int → Except CodecError U4
  | none => .ok 0#4
  | some x => u4Check (some .group) x

/-- The manufacturer operand (R120, R145; the field's name by log 15). Of two bytes out of range `byte2` is reported: the
model's choice (log 21). -/
def checkMfr : RawMfr → Except CodecError Mfr
  | .oneByte b => do return .oneByte (← u7Check (some .manufacturer) b)
  | .threeByte b2 b3 => do
    let b2 ← u7Check (some .manufacturer) b2
    let b3 ← u7Check (some .manufacturer) b3
    return .threeByte b2 b3

/-- The data operand of `sysEx7` (R143, R145; the field's name by log 15). Of several elements out of range the first is reported: the model's
choice (log 21). -/
def checkData : List Int → Except CodecError (List U7)
  | [] => .ok []
  | x :: xs => do
    let v ← u7Check (some .data) x
    let vs ← checkData xs
    return v :: vs

/-- The bank operand of `m2ProgramChange` (R144, R145; the field's name by log 15). Of two parts out of range the MSB is reported: the model's
choice (log 21). -/
def checkBank : Option (Int × Int) → Except CodecError (Option (U7 × U7))
  | none => .ok none
  | some (msb, lsb) => do
    let m ← u7Check (some .bank) msb
    let l ← u7Check (some .bank) lsb
    return some (m, l)

/-- `EV.MAKE(kind, f1, f2, ...)` (R145): the fields in the order of R141 to R144, then `channel`, then `group`; the first failing field is
the one reported. -/
def evMake : RawEvent → Except CodecError Event
  | .noteOff note velocity channel group => do
    let note ← u7Check (some .note) note
    let velocity ← u7Check (some .velocity) velocity
    let channel ← u4Check (some .channel) channel
    let group ← checkGroup group
    return .noteOff note velocity channel group
  | .noteOn note velocity channel group => do
    let note ← u7Check (some .note) note
    let velocity ← u7Check (some .velocity) velocity
    let channel ← u4Check (some .channel) channel
    let group ← checkGroup group
    return .noteOn note velocity channel group
  | .notePressure note amount channel group => do
    let note ← u7Check (some .note) note
    let amount ← u7Check (some .amount) amount
    let channel ← u4Check (some .channel) channel
    let group ← checkGroup group
    return .notePressure note amount channel group
  | .cc controller value channel group => do
    let controller ← u7Check (some .controller) controller
    let value ← u7Check (some .value) value
    let channel ← u4Check (some .channel) channel
    let group ← checkGroup group
    return .cc controller value channel group
  | .programChange program channel group => do
    let program ← u7Check (some .program) program
    let channel ← u4Check (some .channel) channel
    let group ← checkGroup group
    return .programChange program channel group
  | .pressure amount channel group => do
    let amount ← u7Check (some .amount) amount
    let channel ← u4Check (some .channel) channel
    let group ← checkGroup group
    return .pressure amount channel group
  | .pitchBend value channel group => do
    let value ← unCheck14 (some .value) value
    let channel ← u4Check (some .channel) channel
    let group ← checkGroup group
    return .pitchBend value channel group
  | .timecodeQuarterFrame dataByte group => do
    let dataByte ← u7Check (some .dataByte) dataByte
    let group ← checkGroup group
    return .timecodeQuarterFrame dataByte group
  | .songPositionPointer midiBeat group => do
    let midiBeat ← unCheck14 (some .midiBeat) midiBeat
    let group ← checkGroup group
    return .songPositionPointer midiBeat group
  | .songSelect number group => do
    let number ← u7Check (some .number) number
    let group ← checkGroup group
    return .songSelect number group
  | .tuneRequest group => do
    let group ← checkGroup group
    return .tuneRequest group
  | .timingClock group => do
    let group ← checkGroup group
    return .timingClock group
  | .start group => do
    let group ← checkGroup group
    return .start group
  | .continue_ group => do
    let group ← checkGroup group
    return .continue_ group
  | .stop group => do
    let group ← checkGroup group
    return .stop group
  | .activeSensing group => do
    let group ← checkGroup group
    return .activeSensing group
  | .systemReset group => do
    let group ← checkGroup group
    return .systemReset group
  | .sysEx7 manufacturer data group => do
    let manufacturer ← checkMfr manufacturer
    let data ← checkData data
    let group ← checkGroup group
    return .sysEx7 manufacturer data group
  | .m2RegisteredPerNoteController note index value channel group => do
    let note ← u7Check (some .note) note
    let index ← unCheck8 (some .index) index
    let value ← unCheck32 (some .value) value
    let channel ← u4Check (some .channel) channel
    let group ← checkGroup group
    return .m2RegisteredPerNoteController note index value channel group
  | .m2AssignablePerNoteController note index value channel group => do
    let note ← u7Check (some .note) note
    let index ← unCheck8 (some .index) index
    let value ← unCheck32 (some .value) value
    let channel ← u4Check (some .channel) channel
    let group ← checkGroup group
    return .m2AssignablePerNoteController note index value channel group
  | .m2RegisteredController bank index value channel group => do
    let bank ← u7Check (some .bank) bank
    let index ← u7Check (some .index) index
    let value ← unCheck32 (some .value) value
    let channel ← u4Check (some .channel) channel
    let group ← checkGroup group
    return .m2RegisteredController bank index value channel group
  | .m2AssignableController bank index value channel group => do
    let bank ← u7Check (some .bank) bank
    let index ← u7Check (some .index) index
    let value ← unCheck32 (some .value) value
    let channel ← u4Check (some .channel) channel
    let group ← checkGroup group
    return .m2AssignableController bank index value channel group
  | .m2RelativeRegisteredController bank index delta channel group => do
    let bank ← u7Check (some .bank) bank
    let index ← u7Check (some .index) index
    let delta ← unCheck32 (some .delta) delta
    let channel ← u4Check (some .channel) channel
    let group ← checkGroup group
    return .m2RelativeRegisteredController bank index delta channel group
  | .m2RelativeAssignableController bank index delta channel group => do
    let bank ← u7Check (some .bank) bank
    let index ← u7Check (some .index) index
    let delta ← unCheck32 (some .delta) delta
    let channel ← u4Check (some .channel) channel
    let group ← checkGroup group
    return .m2RelativeAssignableController bank index delta channel group
  | .m2PerNotePitchBend note value channel group => do
    let note ← u7Check (some .note) note
    let value ← unCheck32 (some .value) value
    let channel ← u4Check (some .channel) channel
    let group ← checkGroup group
    return .m2PerNotePitchBend note value channel group
  | .m2NoteOff note velocity attrType attrData channel group => do
    let note ← u7Check (some .note) note
    let velocity ← unCheck16 (some .velocity) velocity
    let attrType ← unCheck8 (some .attrType) attrType
    let attrData ← unCheck16 (some .attrData) attrData
    let channel ← u4Check (some .channel) channel
    let group ← checkGroup group
    return .m2NoteOff note velocity attrType attrData channel group
  | .m2NoteOn note velocity attrType attrData channel group => do
    let note ← u7Check (some .note) note
    let velocity ← unCheck16 (some .velocity) velocity
    let attrType ← unCheck8 (some .attrType) attrType
    let attrData ← unCheck16 (some .attrData) attrData
    let channel ← u4Check (some .channel) channel
    let group ← checkGroup group
    return .m2NoteOn note velocity attrType attrData channel group
  | .m2NotePressure note value channel group => do
    let note ← u7Check (some .note) note
    let value ← unCheck32 (some .value) value
    let channel ← u4Check (some .channel) channel
    let group ← checkGroup group
    return .m2NotePressure note value channel group
  | .m2CC index value channel group => do
    let index ← u7Check (some .index) index
    let value ← unCheck32 (some .value) value
    let channel ← u4Check (some .channel) channel
    let group ← checkGroup group
    return .m2CC index value channel group
  | .m2ProgramChange program bank channel group => do
    let program ← u7Check (some .program) program
    let bank ← checkBank bank
    let channel ← u4Check (some .channel) channel
    let group ← checkGroup group
    return .m2ProgramChange program bank channel group
  | .m2Pressure value channel group => do
    let value ← unCheck32 (some .value) value
    let channel ← u4Check (some .channel) channel
    let group ← checkGroup group
    return .m2Pressure value channel group
  | .m2PitchBend value channel group => do
    let value ← unCheck32 (some .value) value
    let channel ← u4Check (some .channel) channel
    let group ← checkGroup group
    return .m2PitchBend value channel group
  | .m2PerNoteManagement note detach reset channel group => do
    let note ← u7Check (some .note) note
    let channel ← u4Check (some .channel) channel
    let group ← checkGroup group
    return .m2PerNoteManagement note detach reset channel group

/-- The operands a manufacturer was built from. -/
def rawMfr : Mfr → RawMfr
  | .oneByte b => .oneByte (b.toNat : Int)
  | .threeByte b2 b3 => .threeByte (b2.toNat : Int) (b3.toNat : Int)

/-- The operands of `EV.MAKE` that name an Event's own fields. -/
def rawOf : Event → RawEvent
  | .noteOff note velocity channel group => .noteOff (note.toNat : Int) (velocity.toNat : Int) (channel.toNat : Int) (some (group.toNat : Int))
  | .noteOn note velocity channel group => .noteOn (note.toNat : Int) (velocity.toNat : Int) (channel.toNat : Int) (some (group.toNat : Int))
  | .notePressure note amount channel group => .notePressure (note.toNat : Int) (amount.toNat : Int) (channel.toNat : Int) (some (group.toNat : Int))
  | .cc controller value channel group => .cc (controller.toNat : Int) (value.toNat : Int) (channel.toNat : Int) (some (group.toNat : Int))
  | .programChange program channel group => .programChange (program.toNat : Int) (channel.toNat : Int) (some (group.toNat : Int))
  | .pressure amount channel group => .pressure (amount.toNat : Int) (channel.toNat : Int) (some (group.toNat : Int))
  | .pitchBend value channel group => .pitchBend (value.toNat : Int) (channel.toNat : Int) (some (group.toNat : Int))
  | .timecodeQuarterFrame dataByte group => .timecodeQuarterFrame (dataByte.toNat : Int) (some (group.toNat : Int))
  | .songPositionPointer midiBeat group => .songPositionPointer (midiBeat.toNat : Int) (some (group.toNat : Int))
  | .songSelect number group => .songSelect (number.toNat : Int) (some (group.toNat : Int))
  | .tuneRequest group => .tuneRequest (some (group.toNat : Int))
  | .timingClock group => .timingClock (some (group.toNat : Int))
  | .start group => .start (some (group.toNat : Int))
  | .continue_ group => .continue_ (some (group.toNat : Int))
  | .stop group => .stop (some (group.toNat : Int))
  | .activeSensing group => .activeSensing (some (group.toNat : Int))
  | .systemReset group => .systemReset (some (group.toNat : Int))
  | .sysEx7 manufacturer data group => .sysEx7 (rawMfr manufacturer) (data.map fun d => (d.toNat : Int)) (some (group.toNat : Int))
  | .m2RegisteredPerNoteController note index value channel group => .m2RegisteredPerNoteController (note.toNat : Int) (index.toNat : Int) (value.toNat : Int) (channel.toNat : Int) (some (group.toNat : Int))
  | .m2AssignablePerNoteController note index value channel group => .m2AssignablePerNoteController (note.toNat : Int) (index.toNat : Int) (value.toNat : Int) (channel.toNat : Int) (some (group.toNat : Int))
  | .m2RegisteredController bank index value channel group => .m2RegisteredController (bank.toNat : Int) (index.toNat : Int) (value.toNat : Int) (channel.toNat : Int) (some (group.toNat : Int))
  | .m2AssignableController bank index value channel group => .m2AssignableController (bank.toNat : Int) (index.toNat : Int) (value.toNat : Int) (channel.toNat : Int) (some (group.toNat : Int))
  | .m2RelativeRegisteredController bank index delta channel group => .m2RelativeRegisteredController (bank.toNat : Int) (index.toNat : Int) (delta.toNat : Int) (channel.toNat : Int) (some (group.toNat : Int))
  | .m2RelativeAssignableController bank index delta channel group => .m2RelativeAssignableController (bank.toNat : Int) (index.toNat : Int) (delta.toNat : Int) (channel.toNat : Int) (some (group.toNat : Int))
  | .m2PerNotePitchBend note value channel group => .m2PerNotePitchBend (note.toNat : Int) (value.toNat : Int) (channel.toNat : Int) (some (group.toNat : Int))
  | .m2NoteOff note velocity attrType attrData channel group => .m2NoteOff (note.toNat : Int) (velocity.toNat : Int) (attrType.toNat : Int) (attrData.toNat : Int) (channel.toNat : Int) (some (group.toNat : Int))
  | .m2NoteOn note velocity attrType attrData channel group => .m2NoteOn (note.toNat : Int) (velocity.toNat : Int) (attrType.toNat : Int) (attrData.toNat : Int) (channel.toNat : Int) (some (group.toNat : Int))
  | .m2NotePressure note value channel group => .m2NotePressure (note.toNat : Int) (value.toNat : Int) (channel.toNat : Int) (some (group.toNat : Int))
  | .m2CC index value channel group => .m2CC (index.toNat : Int) (value.toNat : Int) (channel.toNat : Int) (some (group.toNat : Int))
  | .m2ProgramChange program bank channel group => .m2ProgramChange (program.toNat : Int) (bank.map fun b => ((b.1.toNat : Int), (b.2.toNat : Int))) (channel.toNat : Int) (some (group.toNat : Int))
  | .m2Pressure value channel group => .m2Pressure (value.toNat : Int) (channel.toNat : Int) (some (group.toNat : Int))
  | .m2PitchBend value channel group => .m2PitchBend (value.toNat : Int) (channel.toNat : Int) (some (group.toNat : Int))
  | .m2PerNoteManagement note detach reset channel group => .m2PerNoteManagement (note.toNat : Int) detach reset (channel.toNat : Int) (some (group.toNat : Int))

/-! ### The operations -/

/-- `U4.CHECK` (R100). -/
def execU4Check (x : Int) (s : State) : Result := returnOrRaise s .uint4 (u4Check none x)

/-- `U7.CHECK` (R101). -/
def execU7Check (x : Int) (s : State) : Result := returnOrRaise s .uint7 (u7Check none x)

/-- `EV.MAKE` (R145). -/
def execEvMake (r : RawEvent) (s : State) : Result := returnOrRaise s .event (evMake r)

/-- `EV.EQ` (R146): structural over variant and fields, `group` included. -/
def execEvEq (a b : Event) (s : State) : Result := return_ s (.bit (decide (a = b)))

end Sys2Proof.Machine
end

