-- ==== Sys2Proof/Machine/SysEx.lean ====
section
/-! DEFINITION. SysExManufacturer (`40_value_types.md` R120 to R122), SysEx7 framing (`42_midi1_parser.md` R200, R201), and the meanings of
`SX7.FROMBYTES` and `MFR.VALID`. -/

namespace Sys2Proof.Machine

/-- `MFR.BYTES(m)` (R121). -/
def mfrBytes : Mfr → List U7
  | .oneByte b => [b]
  | .threeByte b2 b3 => [0#7, b2, b3]

/-- `MFR.PARSE(s)` (R121): `none` where it fails. -/
def mfrParse : List U7 → Option (Mfr × List U7)
  | [] => none
  | b :: rest =>
    if b ≠ 0#7 then some (.oneByte b, rest)
    else
      match rest with
      | b2 :: b3 :: data => some (.threeByte b2 b3, data)
      | _ => none

/-- `MFR.VALID(m)` (R122). -/
def mfrValid : Mfr → Bool
  | .oneByte b => decide (0x01 ≤ b.toNat) && decide (b.toNat ≤ 0x7D)
  | .threeByte b2 b3 => !(decide (b2 = 0#7) && decide (b3 = 0#7))

/-- Step 4 of R200: a final `0xF7` is consumed. -/
def dropTerminator (body : List Byte) : List Byte :=
  if body.getLast? = some 0xF7#8 then body.dropLast else body

/-- Step 5 of R200: the cause reported for the first byte of the body that is `0x80` or above, if there is one. -/
def payloadCause : List Byte → Option Cause
  | [] => none
  | b :: rest =>
    if isData b then payloadCause rest
    else if b = 0xF7#8 then some .endMisplaced
    else if rest = [] then some .terminatorIncorrect
    else some .statusInPayload

/-- `SX7.FROMBYTES(bytes, group)` (R200), the checks in the order of its steps. -/
def sx7FromBytes (bytes : List Byte) (group : U4) : Except CodecError Event :=
  match bytes with
  | [] => .error (.malformedMessage .empty)
  | b0 :: rest =>
    if b0 ≠ 0xF0#8 then .error (.malformedMessage .startMissing)
    else
      let body := dropTerminator rest
      match payloadCause body with
      | some c => .error (.malformedMessage c)
      | none =>
        if body = [] then .error (.malformedMessage .manufacturerAbsent)
        else
          match mfrParse (body.map low7) with
          | some (m, data) => .ok (.sysEx7 m data group)
          | none => .error (.malformedMessage .manufacturerAbsent)

/-- The canonical wire form of a manufacturer and its data (R68, R201). -/
def sx7Canon (m : Mfr) (data : List U7) : List Byte :=
  [0xF0#8] ++ (mfrBytes m).map byteOf7 ++ data.map byteOf7 ++ [0xF7#8]

/-- The canonical form of an input frame (R201): with its terminator, added where it lacks one. -/
def sx7Terminated (bytes : List Byte) : List Byte :=
  if bytes.getLast? = some 0xF7#8 then bytes else bytes ++ [0xF7#8]

/-- `SX_FINISH()` (R190): the collected bytes are framed and go through R200; a failure is absorbed. -/
def sxFinish (p : Parser) : Parser :=
  match sx7FromBytes ([0xF0#8] ++ p.sxbuf.map byteOf7 ++ [0xF7#8]) Config.m1Group with
  | .ok e => closeSysEx (emit e p)
  | .error _ => closeSysEx (skip .malformedSysEx p)

/-- `SX7.FROMBYTES` (R200): stateless; the group is 0 if not given (R148). -/
def execSx7FromBytes (bytes : List Byte) (group : Option U4) (s : State) : Result :=
  returnOrRaise s .event (sx7FromBytes bytes (group.getD 0#4))

/-- `MFR.VALID` (R122). -/
def execMfrValid (m : Mfr) (s : State) : Result := return_ s (.bit (mfrValid m))

end Sys2Proof.Machine
end

