-- ==== Sys2Proof/Machine/Midi1.lean ====
section
/-! DEFINITION. Unit M1P, the MIDI 1.0 byte-to-event parser (`42_midi1_parser.md`): the meanings of the 24 byte rows, and `M1.BYTE` and
`M1.PACKET` written as the pseudocode of R162 and R161. -/

namespace Sys2Proof.Machine

/-! ### Completing a message (R168, R171 to R177, R180 to R182) -/

/-- A message with one data byte. -/
def oneData (f : U7 → Event) : List U7 → Option Event
  | [a] => some (f a)
  | _ => none

/-- A message with two data bytes, in order of arrival. -/
def twoData (f : U7 → U7 → Event) : List U7 → Option Event
  | [a, b] => some (f a b)
  | _ => none

/-- The event of a complete Note On (R172, R178): `noteOff` with velocity 0 when the velocity is 0 and `CFG.NOZ` is 1. -/
def noteOnEvent (noz : Bool) (n : U4) (note velocity : U7) : Event :=
  if velocity = 0#7 ∧ noz = true then .noteOff note 0#7 n Config.m1Group else .noteOn note velocity n Config.m1Group

/-- `COMPLETE(st, d)` (R168): the event of the message with status `st` and data bytes `d`. -/
def messageEvent (noz : Bool) (st : Byte) (d : List U7) : Option Event :=
  let g := Config.m1Group
  let n := loNib st
  match (hiNib st).toNat with
  | 0x8 => twoData (fun a b => .noteOff a b n g) d
  | 0x9 => twoData (fun a b => noteOnEvent noz n a b) d
  | 0xA => twoData (fun a b => .notePressure a b n g) d
  | 0xB => twoData (fun a b => .cc a b n g) d
  | 0xC => oneData (fun a => .programChange a n g) d
  | 0xD => oneData (fun a => .pressure a n g) d
  | 0xE => twoData (fun a b => .pitchBend (pkU14 b a) n g) d
  | 0xF =>
    match n.toNat with
    | 0x1 => oneData (fun a => .timecodeQuarterFrame a g) d
    | 0x2 => twoData (fun a b => .songPositionPointer (pkU14 b a) g) d
    | 0x3 => oneData (fun a => .songSelect a g) d
    | _ => none
  | _ => none

/-- `COMPLETE(st, d); PEND <- none` (R167, R168). -/
def complete (m : Pending) (p : Parser) : Parser :=
  match messageEvent p.noz m.st m.data with
  | some e => { emit e p with pend := none }
  | none => { p with pend := none }

/-- `PEND.d <- PEND.d ++ [b]`, and the completion when the message has all its bytes (R167). -/
def addData (m : Pending) (v : U7) (p : Parser) : Parser :=
  let m' : Pending := { m with data := m.data ++ [v] }
  if need m.st = some m'.data.length then complete m' p else { p with pend := some m' }

/-- `DATA`, a data byte in `Idle` (R167), with running status (R170). -/
def idleData (v : U7) (p : Parser) : Parser :=
  match p.pend with
  | some m => addData m v p
  | none =>
    match p.rs with
    | some st => addData ⟨st, []⟩ v p
    | none => skip .orphanDataByte p

/-! ### The mode -/

/-- A status byte `0x80..0xF6` in either mode: in `CollectingSysEx` it ends the SysEx first, then acts as in `Idle` (R189). -/
def statusByte (idleEffect : Parser → Parser) (p : Parser) : Parser :=
  match p.mode with
  | .idle => idleEffect p
  | .collectingSysEx => idleEffect (sxFinish p)

/-! ### The byte rows -/

/-- `DATA` (R167 in `Idle`, R188 in `CollectingSysEx`). -/
def dataEffect (v : U7) (p : Parser) : Parser :=
  match p.mode with
  | .idle => idleData v p
  | .collectingSysEx => collect v p

def execData (v : U7) (s : State) : Result := byteRow s fun _ => dataEffect v

/-- A channel status byte (R169) with status nibble `kind`. -/
def channelEffect (kind n : U4) (params : Params) : Parser → Parser :=
  statusByte (openChannelMessage params.rsScope (pkNib kind n))

/-- `NOTE_OFF`, status `0x8n` (R169, R171). -/
def execNoteOff (n : U4) (s : State) : Result := byteRow s (channelEffect 0x8#4 n)

/-- `NOTE_ON`, status `0x9n` (R169, R172). -/
def execNoteOn (n : U4) (s : State) : Result := byteRow s (channelEffect 0x9#4 n)

/-- `POLY_PRESSURE`, status `0xAn` (R169, R173). -/
def execPolyPressure (n : U4) (s : State) : Result := byteRow s (channelEffect 0xA#4 n)

/-- `CONTROL_CHANGE`, status `0xBn` (R169, R174). -/
def execControlChange (n : U4) (s : State) : Result := byteRow s (channelEffect 0xB#4 n)

/-- `PROGRAM_CHANGE`, status `0xCn` (R169, R175). -/
def execProgramChange (n : U4) (s : State) : Result := byteRow s (channelEffect 0xC#4 n)

/-- `CHANNEL_PRESSURE`, status `0xDn` (R169, R176). -/
def execChannelPressure (n : U4) (s : State) : Result := byteRow s (channelEffect 0xD#4 n)

/-- `PITCH_BEND`, status `0xEn` (R169, R177). -/
def execPitchBend (n : U4) (s : State) : Result := byteRow s (channelEffect 0xE#4 n)

/-- `SOX`, byte `0xF0` (R179, R189). -/
def execSox (s : State) : Result := byteRow s fun _ => statusByte openSysEx

/-- `MTC_QF`, byte `0xF1` (R180). -/
def execMtcQf (s : State) : Result := byteRow s fun _ => statusByte (openSystemMessage 0xF1#8)

/-- `SONG_POS`, byte `0xF2` (R181). -/
def execSongPos (s : State) : Result := byteRow s fun _ => statusByte (openSystemMessage 0xF2#8)

/-- `SONG_SEL`, byte `0xF3` (R182). -/
def execSongSel (s : State) : Result := byteRow s fun _ => statusByte (openSystemMessage 0xF3#8)

/-- `UNDEF_F4`, byte `0xF4` (R183). -/
def execUndefF4 (s : State) : Result := byteRow s fun _ => statusByte (fun p => skip .undefinedStatus (cancelMessage p))

/-- `UNDEF_F5`, byte `0xF5` (R184). -/
def execUndefF5 (s : State) : Result := byteRow s fun _ => statusByte (fun p => skip .undefinedStatus (cancelMessage p))

/-- `TUNE_REQ`, byte `0xF6` (R185). -/
def execTuneReq (s : State) : Result :=
  byteRow s fun _ => statusByte (fun p => emit (.tuneRequest Config.m1Group) (cancelMessage p))

/-- `EOX` in `Idle` (R186) and in `CollectingSysEx` (R187). -/
def eoxEffect (p : Parser) : Parser :=
  match p.mode with
  | .idle => skip .endWithoutStart (cancelMessage p)
  | .collectingSysEx => sxFinish p

/-- `EOX`, byte `0xF7` (R186, R187). -/
def execEox (s : State) : Result := byteRow s fun _ => eoxEffect

/-- `CLOCK`, byte `0xF8` (R191, R199). -/
def execClock (s : State) : Result := byteRow s fun _ => emit (.timingClock Config.m1Group)

/-- `UNDEF_F9`, byte `0xF9` (R192). -/
def execUndefF9 (s : State) : Result := byteRow s fun _ => skip .undefinedStatus

/-- `START`, byte `0xFA` (R193). -/
def execStart (s : State) : Result := byteRow s fun _ => emit (.start Config.m1Group)

/-- `CONTINUE`, byte `0xFB` (R194). -/
def execContinue (s : State) : Result := byteRow s fun _ => emit (.continue_ Config.m1Group)

/-- `STOP`, byte `0xFC` (R195). -/
def execStop (s : State) : Result := byteRow s fun _ => emit (.stop Config.m1Group)

/-- `UNDEF_FD`, byte `0xFD` (R196). -/
def execUndefFD (s : State) : Result := byteRow s fun _ => skip .undefinedStatus

/-- `ACTIVE_SENSE`, byte `0xFE` (R197). -/
def execActiveSense (s : State) : Result := byteRow s fun _ => emit (.activeSensing Config.m1Group)

/-- `SYS_RESET`, byte `0xFF` (R198): an event, not a reset of the parser. -/
def execSysReset (s : State) : Result := byteRow s fun _ => emit (.systemReset Config.m1Group)

/-! ### `M1.BYTE` and `M1.PACKET` as the spec writes them

The machine runs a packet row by row. The definitions below are R161 and R162 in the spec's own order, on one instance; the
statements say that the machine's steps are these. -/

/-- `REALTIME(b)` (R162, R191 to R198). -/
def realTimeByte (b : Byte) (p : Parser) : Parser :=
  let g := Config.m1Group
  if b = 0xF8#8 then emit (.timingClock g) p
  else if b = 0xFA#8 then emit (.start g) p
  else if b = 0xFB#8 then emit (.continue_ g) p
  else if b = 0xFC#8 then emit (.stop g) p
  else if b = 0xFE#8 then emit (.activeSensing g) p
  else if b = 0xFF#8 then emit (.systemReset g) p
  else skip .undefinedStatus p

/-- `SYSTEM_COMMON(b)` in `Idle` (R162, R179 to R186). -/
def systemCommonByte (b : Byte) (p : Parser) : Parser :=
  if b = 0xF0#8 then openSysEx p
  else if b = 0xF1#8 ∨ b = 0xF2#8 ∨ b = 0xF3#8 then openSystemMessage b p
  else if b = 0xF6#8 then emit (.tuneRequest Config.m1Group) (cancelMessage p)
  else if b = 0xF7#8 then skip .endWithoutStart (cancelMessage p)
  else skip .undefinedStatus (cancelMessage p)

/-- `IDLE_BYTE(b)` (R162). -/
def idleByte (params : Params) (b : Byte) (p : Parser) : Parser :=
  if b.toNat < 0x80 then idleData (low7 b) p
  else if b.toNat < 0xF0 then openChannelMessage params.rsScope b p
  else systemCommonByte b p

/-- `M1.BYTE(b)` (R162). -/
def m1Byte (params : Params) (b : Byte) (p : Parser) : Parser :=
  advance
    (if 0xF8 ≤ b.toNat then realTimeByte b p
     else if p.mode = .collectingSysEx then
       if b.toNat < 0x80 then collect (low7 b) p
       else if b = 0xF7#8 then sxFinish p
       else idleByte params b (sxFinish p)
     else idleByte params b p)

/-- `M1.BYTE` over a sequence of bytes: the loop of R161. -/
def m1Bytes (params : Params) : List Byte → Parser → Parser
  | [], p => p
  | b :: bs, p => m1Bytes params bs (m1Byte params b p)

/-- `M1.PACKET` on one instance (R161): the instance afterwards; its `out` is the result. -/
def m1Packet (params : Params) (bytes : List Byte) (p : Parser) : Parser :=
  endPacket (m1Bytes params bytes (startPacket params.rsScope p))

end Sys2Proof.Machine
end

