-- ==== Sys2Proof/Machine/Packers.lean ====
section
/-! DEFINITION. Unit VPK, the event-to-wire packers (`44_packers.md` R280 to R291). -/

namespace Sys2Proof.Machine

/-! ### To MIDI 1.0 bytes -/

/-- A channel message: status byte, then data bytes (R281). -/
def channelBytes (kind ch : U4) (d : List U7) : List Byte := pkNib kind ch :: d.map byteOf7

/-- A system message: status byte, then data bytes (R282). -/
def systemBytes (st : Byte) (d : List U7) : List Byte := st :: d.map byteOf7

/-- `PACK.M1(e)` (R280 to R284): one complete message, always with its status byte; the group is not encoded. A MIDI 2.0 variant is
`REFUSED(NoMidi1Form)`. -/
def packM1 : Event → Except Refusal (List Byte)
  | .noteOff note velocity ch _ => .ok (channelBytes 0x8#4 ch [note, velocity])
  | .noteOn note velocity ch _ => .ok (channelBytes 0x9#4 ch [note, velocity])
  | .notePressure note amount ch _ => .ok (channelBytes 0xA#4 ch [note, amount])
  | .cc controller value ch _ => .ok (channelBytes 0xB#4 ch [controller, value])
  | .programChange program ch _ => .ok (channelBytes 0xC#4 ch [program])
  | .pressure amount ch _ => .ok (channelBytes 0xD#4 ch [amount])
  | .pitchBend value ch _ => .ok (channelBytes 0xE#4 ch [lsb14 value, msb14 value])
  | .timecodeQuarterFrame dataByte _ => .ok (systemBytes 0xF1#8 [dataByte])
  | .songPositionPointer midiBeat _ => .ok (systemBytes 0xF2#8 [lsb14 midiBeat, msb14 midiBeat])
  | .songSelect number _ => .ok (systemBytes 0xF3#8 [number])
  | .tuneRequest _ => .ok (systemBytes 0xF6#8 [])
  | .timingClock _ => .ok (systemBytes 0xF8#8 [])
  | .start _ => .ok (systemBytes 0xFA#8 [])
  | .continue_ _ => .ok (systemBytes 0xFB#8 [])
  | .stop _ => .ok (systemBytes 0xFC#8 [])
  | .activeSensing _ => .ok (systemBytes 0xFE#8 [])
  | .systemReset _ => .ok (systemBytes 0xFF#8 [])
  | .sysEx7 m data _ => .ok (sx7Canon m data)
  | .m2RegisteredPerNoteController _ _ _ _ _ => .error .noMidi1Form
  | .m2AssignablePerNoteController _ _ _ _ _ => .error .noMidi1Form
  | .m2RegisteredController _ _ _ _ _ => .error .noMidi1Form
  | .m2AssignableController _ _ _ _ _ => .error .noMidi1Form
  | .m2RelativeRegisteredController _ _ _ _ _ => .error .noMidi1Form
  | .m2RelativeAssignableController _ _ _ _ _ => .error .noMidi1Form
  | .m2PerNotePitchBend _ _ _ _ => .error .noMidi1Form
  | .m2NoteOff _ _ _ _ _ _ => .error .noMidi1Form
  | .m2NoteOn _ _ _ _ _ _ => .error .noMidi1Form
  | .m2NotePressure _ _ _ _ => .error .noMidi1Form
  | .m2CC _ _ _ _ => .error .noMidi1Form
  | .m2ProgramChange _ _ _ _ => .error .noMidi1Form
  | .m2Pressure _ _ _ => .error .noMidi1Form
  | .m2PitchBend _ _ _ => .error .noMidi1Form
  | .m2PerNoteManagement _ _ _ _ _ => .error .noMidi1Form

/-! ### To UMP word groups -/

/-- One group of one word, message type `0x2` (R286). -/
def cv1Group (g k ch : U4) (d0 d1 : Byte) : List (List Word) := [[pkWord (pkNib 0x2#4 g) (pkNib k ch) d0 d1]]

/-- One group of one word, message type `0x1` (R287). -/
def sys1Group (g : U4) (st d0 d1 : Byte) : List (List Word) := [[pkWord (pkNib 0x1#4 g) st d0 d1]]

/-- `SEG(s, q)` of R288: a SysEx7 group with segment status `s` and payload `q`, zero-padded to 6 bytes. -/
def sx7Segment (g status : U4) (q : List U7) : List Word :=
  let at_ (k : Nat) : Byte := byteOf7 (q.getD k 0#7)
  [ pkWord (pkNib 0x3#4 g) (pkNib status (BitVec.ofNat 4 q.length)) (at_ 0) (at_ 1),
    pkWord (at_ 2) (at_ 3) (at_ 4) (at_ 5) ]

/-- The chunks of R288: 6 bytes each, the last of 1 to 6. -/
def chunks6 : List U7 → List (List U7)
  | a :: b :: c :: d :: e :: f :: rest => [a, b, c, d, e, f] :: chunks6 rest
  | [] => []
  | short => [short]

/-- The groups after the first of a SysEx7 cut into several (R288): continue groups, then an end group. -/
def sx7Following (g : U4) : List (List U7) → List (List Word)
  | [] => []
  | [c] => [sx7Segment g 0x3#4 c]
  | c :: cs => sx7Segment g 0x2#4 c :: sx7Following g cs

/-- The groups of a SysEx7 payload (R288). -/
def sx7Groups (g : U4) (payload : List U7) : List (List Word) :=
  if payload.length ≤ 6 then [sx7Segment g 0x0#4 payload]
  else
    match chunks6 payload with
    | [] => []
    | c :: cs => sx7Segment g 0x1#4 c :: sx7Following g cs

/-- A MIDI 2.0 variant (R289, R291): one group of two words under `P2_0`, `REFUSED(NoProtocol1Form)` under `P1_0`. -/
def cv2Group (protocol : Protocol) (g status ch : U4) (b2 b3 : Byte) (w1 : Word) : Except Refusal (List (List Word)) :=
  match protocol with
  | .p2_0 => .ok [[pkWord (pkNib 0x4#4 g) (pkNib status ch) b2 b3, w1]]
  | .p1_0 => .error .noProtocol1Form

/-- `(detach << 1) | reset` (R289). -/
def managementFlags (detach reset : Bool) : Byte := 0#6 ++ BitVec.ofBool detach ++ BitVec.ofBool reset

/-- `PACK.UMP(e, protocol)` (R285 to R291). -/
def packUmp (protocol : Protocol) : Event → Except Refusal (List (List Word))
  | .noteOff note velocity ch g => .ok (cv1Group g 0x8#4 ch (byteOf7 note) (byteOf7 velocity))
  | .noteOn note velocity ch g => .ok (cv1Group g 0x9#4 ch (byteOf7 note) (byteOf7 velocity))
  | .notePressure note amount ch g => .ok (cv1Group g 0xA#4 ch (byteOf7 note) (byteOf7 amount))
  | .cc controller value ch g => .ok (cv1Group g 0xB#4 ch (byteOf7 controller) (byteOf7 value))
  | .programChange program ch g => .ok (cv1Group g 0xC#4 ch (byteOf7 program) 0x00#8)
  | .pressure amount ch g => .ok (cv1Group g 0xD#4 ch (byteOf7 amount) 0x00#8)
  | .pitchBend value ch g => .ok (cv1Group g 0xE#4 ch (byteOf7 (lsb14 value)) (byteOf7 (msb14 value)))
  | .timecodeQuarterFrame dataByte g => .ok (sys1Group g 0xF1#8 (byteOf7 dataByte) 0x00#8)
  | .songPositionPointer midiBeat g => .ok (sys1Group g 0xF2#8 (byteOf7 (lsb14 midiBeat)) (byteOf7 (msb14 midiBeat)))
  | .songSelect number g => .ok (sys1Group g 0xF3#8 (byteOf7 number) 0x00#8)
  | .tuneRequest g => .ok (sys1Group g 0xF6#8 0x00#8 0x00#8)
  | .timingClock g => .ok (sys1Group g 0xF8#8 0x00#8 0x00#8)
  | .start g => .ok (sys1Group g 0xFA#8 0x00#8 0x00#8)
  | .continue_ g => .ok (sys1Group g 0xFB#8 0x00#8 0x00#8)
  | .stop g => .ok (sys1Group g 0xFC#8 0x00#8 0x00#8)
  | .activeSensing g => .ok (sys1Group g 0xFE#8 0x00#8 0x00#8)
  | .systemReset g => .ok (sys1Group g 0xFF#8 0x00#8 0x00#8)
  | .sysEx7 m data g => .ok (sx7Groups g (mfrBytes m ++ data))
  | .m2RegisteredPerNoteController note index value ch g => cv2Group protocol g 0x0#4 ch (byteOf7 note) index value
  | .m2AssignablePerNoteController note index value ch g => cv2Group protocol g 0x1#4 ch (byteOf7 note) index value
  | .m2RegisteredController bank index value ch g => cv2Group protocol g 0x2#4 ch (byteOf7 bank) (byteOf7 index) value
  | .m2AssignableController bank index value ch g => cv2Group protocol g 0x3#4 ch (byteOf7 bank) (byteOf7 index) value
  | .m2RelativeRegisteredController bank index delta ch g => cv2Group protocol g 0x4#4 ch (byteOf7 bank) (byteOf7 index) delta
  | .m2RelativeAssignableController bank index delta ch g => cv2Group protocol g 0x5#4 ch (byteOf7 bank) (byteOf7 index) delta
  | .m2PerNotePitchBend note value ch g => cv2Group protocol g 0x6#4 ch (byteOf7 note) 0x00#8 value
  | .m2NoteOff note velocity attrType attrData ch g =>
    cv2Group protocol g 0x8#4 ch (byteOf7 note) attrType (pkHalf velocity attrData)
  | .m2NoteOn note velocity attrType attrData ch g =>
    cv2Group protocol g 0x9#4 ch (byteOf7 note) attrType (pkHalf velocity attrData)
  | .m2NotePressure note value ch g => cv2Group protocol g 0xA#4 ch (byteOf7 note) 0x00#8 value
  | .m2CC index value ch g => cv2Group protocol g 0xB#4 ch (byteOf7 index) 0x00#8 value
  | .m2ProgramChange program (some (msb, lsb)) ch g =>
    cv2Group protocol g 0xC#4 ch 0x00#8 0x01#8 (pkWord (byteOf7 program) 0x00#8 (byteOf7 msb) (byteOf7 lsb))
  | .m2ProgramChange program none ch g =>
    cv2Group protocol g 0xC#4 ch 0x00#8 0x00#8 (pkWord (byteOf7 program) 0x00#8 0x00#8 0x00#8)
  | .m2Pressure value ch g => cv2Group protocol g 0xD#4 ch 0x00#8 0x00#8 value
  | .m2PitchBend value ch g => cv2Group protocol g 0xE#4 ch 0x00#8 0x00#8 value
  | .m2PerNoteManagement note detach reset ch g =>
    cv2Group protocol g 0xF#4 ch (byteOf7 note) (managementFlags detach reset) 0x00000000#32

/-! ### The operations -/

/-- End with a value or a refusal. -/
def returnOrRefuse {α : Type} (s : State) (f : α → Reply) : Except Refusal α → Result
  | .ok a => return_ s (f a)
  | .error r => .refused r

/-- `PACK.M1` (R280). -/
def execPackM1 (e : Event) (s : State) : Result := returnOrRefuse s .bytes (packM1 e)

/-- `PACK.UMP` (R285). -/
def execPackUmp (e : Event) (protocol : Protocol) (s : State) : Result := returnOrRefuse s .groups (packUmp protocol e)

end Sys2Proof.Machine
end

