-- ==== Sys2Proof/Machine/Scaler.lean ====
section
/-! DEFINITION. Unit BP32, the Bipolar32 scaler (`40_value_types.md` R110 to R118). -/

namespace Sys2Proof.Machine

/-- `|q|` (R8). -/
def absRat (q : Rat) : Rat := if q < 0 then -q else q

/-! ### IEEE 754 binary64 rounding (R12) -/

/-- `2 ^ e` for an integer exponent. -/
def pow2 (e : Int) : Rat := if 0 ≤ e then ((2 ^ e.toNat : Nat) : Rat) else 1 / ((2 ^ (-e).toNat : Nat) : Rat)

/-- The exponent of the leading bit of a positive rational: the greatest `e` with `2 ^ e ≤ q`. -/
def leadExp (q : Rat) : Int :=
  let e : Int := (Nat.log2 q.num.toNat : Int) - (Nat.log2 q.den : Int)
  if q < pow2 e then e - 1 else e

/-- The nearest integer, a tie going to the even one. -/
def roundHalfEven (q : Rat) : Int :=
  let f := q.floor
  let r := q - (f : Rat)
  if r < 1 / 2 then f
  else if 1 / 2 < r then f + 1
  else if f % 2 = 0 then f
  else f + 1

/-- The spacing of the binary64 values around a positive `q`: 53 significant bits, and no finer than `2 ^ -1074`. -/
def ulp64 (q : Rat) : Rat := pow2 (max (leadExp q - 52) (-1074))

/-- `RN64(q)` (R12): the binary64 value nearest to `q`, ties to the even significand, for the `q` the scaler forms, all of absolute value at
most `2 ^ 31` (log 14). -/
def rn64 (q : Rat) : Rat :=
  if q = 0 then 0
  else
    let a := absRat q
    let m := (roundHalfEven (a / ulp64 a) : Rat) * ulp64 a
    if q < 0 then -m else m

/-- `RN64(q)` as a binary64 port delivers it (R114): zero is `+0.0`. -/
def port64 (q : Rat) : Binary64 := { negative := decide (q < 0), magnitude := absRat (rn64 q) }

/-! ### Encoding -/

/-- `clamp(v)` (R111); `none` for `NaN`, which cannot be clamped. -/
def clamp : Real64 → Option Rat
  | .nan => none
  | .negInf => some (-1)
  | .posInf => some 1
  | .finite q => some (if q < -1 then -1 else if 1 < q then 1 else q)

/-- `round(q)` for `q ≥ 0` (R113): `floor(q + 1/2)`. -/
def roundHalfUp (q : Rat) : Int := (q + 1 / 2).floor

/-- The two branches of R112 on a clamped operand, with the product formed by `mul` (R115). -/
def scale (mul : Rat → Rat → Rat) (c : Rat) : U32 :=
  if 0 < c then BitVec.ofInt 32 (0x80000000 + roundHalfUp (mul c 0x7FFFFFFF))
  else BitVec.ofInt 32 (0x80000000 - roundHalfUp (mul (absRat c) 0x80000000))

/-- The exact product. -/
def mulExact (a b : Rat) : Rat := a * b

/-- The IEEE 754 binary64 product of two binary64 values (R115). -/
def mul64 (a b : Rat) : Rat := rn64 (a * b)

/-- `BP32.ENC(v)` (R112) under a setting of `SCALER_ARITH` (R115). Under `BINARY64` the operand is a binary64 value; for a rational that is
none the spec states no result, and it is the free value `Config.scalerOffFormat` (log 8). -/
def bp32Encode (arith : ScalerArith) (v : Real64) : Except CodecError U32 :=
  match clamp v with
  | none => .error (.outOfRangeValue .bipolar32 none .nan)
  | some c =>
    match arith with
    | .exact => .ok (scale mulExact c)
    | .binary64 => .ok (if rn64 c = c then scale mul64 c else Config.scalerOffFormat c)

/-! ### Decoding -/

/-- `BP32.DEC(raw)` (R114). The subtraction of the lower branch is mathematical, not a 32-bit one. -/
def bp32Decode (raw : U32) : Rat :=
  if 0x80000000 < raw.toNat then ((raw.toNat : Rat) - 0x80000000) / 0x7FFFFFFF
  else -((0x80000000 - (raw.toNat : Rat)) / 0x80000000)

/-! ### The operations -/

/-- `BP32.ENC` (R112): `OutOfRangeValue` for `NaN` only. -/
def execBp32Enc (v : Real64) (s : State) : Result := returnOrRaise s .raw (bp32Encode s.params.scalerArith v)

/-- `BP32.DEC` (R114): the exact rational, and `RN64` of it for a binary64 port. -/
def execBp32Dec (raw : U32) (s : State) : Result := return_ s (.value (bp32Decode raw) (port64 (bp32Decode raw)))

end Sys2Proof.Machine
end

