-- ==== Sys2Proof/Machine/UmpData.lean ====
section
/-! DEFINITION. Unit M2D: message type `0x3`, SysEx7 (`43_ump_decoder.md` R246 to R249); message type `0x5` (R267); the unrecognised message
types (R224). -/

namespace Sys2Proof.Machine

/-- A row of message type `0x3` (two words, R71). -/
def sx7Row (s : State) (f : Word → UmpResult) : Result := umpRow s 2 fun ws => f (word1 ws)

/-- The six payload byte positions of a SysEx7 group (R74, R247). -/
def sx7Positions (b2 b3 : Byte) (w1 : Word) : List Byte :=
  [b2, b3, wordByte0 w1, wordByte1 w1, wordByte2 w1, wordByte3 w1]

/-- A complete SysEx7 group (R247), the checks in its order. -/
def sx7CompleteResult (group nbytes : U4) (b2 b3 : Byte) (w1 : Word) : UmpResult :=
  if 6 < nbytes.toNat then .skip .badByteCount
  else
    match u7FromBytes ((sx7Positions b2 b3 w1).take nbytes.toNat) with
    | none => .skip .fieldOutOfRange
    | some p =>
      match mfrParse p with
      | none => .skip .malformedSysEx
      | some (m, data) => .event (.sysEx7 m data group)

/-- Segment status `0x0`, a complete message (R247). -/
def execSx7Complete (g nbytes : U4) (b2 b3 : Byte) (s : State) : Result := sx7Row s (sx7CompleteResult g nbytes b2 b3)

/-- Segment status `0x1`, start (R248). -/
def execSx7Start (_g _nbytes : U4) (_b2 _b3 : Byte) (s : State) : Result := sx7Row s fun _ => .skip .multiSegmentSysEx

/-- Segment status `0x2`, continue (R248). -/
def execSx7Continue (_g _nbytes : U4) (_b2 _b3 : Byte) (s : State) : Result := sx7Row s fun _ => .skip .multiSegmentSysEx

/-- Segment status `0x3`, end (R248). -/
def execSx7End (_g _nbytes : U4) (_b2 _b3 : Byte) (s : State) : Result := sx7Row s fun _ => .skip .multiSegmentSysEx

/-- Segment status `0x4..0x7`, reserved (R249). -/
def execSx7Reserved4_7 (_g : U4) (_status : BitVec 2) (_nbytes : U4) (_b2 _b3 : Byte) (s : State) : Result :=
  sx7Row s fun _ => .skip .unrecognizedStatus

/-- Segment status `0x8..0xF`, reserved (R249). -/
def execSx7Reserved8_F (_g : U4) (_status : BitVec 3) (_nbytes : U4) (_b2 _b3 : Byte) (s : State) : Result :=
  sx7Row s fun _ => .skip .unrecognizedStatus

/-- Message type `0x5`, four words (R267): `REFUSED(Data128NotSpecified)`; a packet with fewer words is skipped (R222). -/
def execD128 (_g : U4) (_rest : BitVec 24) (s : State) : Result := umpRow s 4 fun _ => .refused .data128NotSpecified

/-- An unrecognised message type (R224): the packet is skipped whatever its length. -/
def unrecognizedType (s : State) : Result := umpRow s 0 fun _ => .skip .unrecognizedMessageType

/-- Message type `0x0` (R224). -/
def execUnrecMt0 (_g : U4) (_rest : BitVec 24) (s : State) : Result := unrecognizedType s

/-- Message type `0x6` (R224). -/
def execUnrecMt6 (_g : U4) (_rest : BitVec 24) (s : State) : Result := unrecognizedType s

/-- Message type `0x7` (R224). -/
def execUnrecMt7 (_g : U4) (_rest : BitVec 24) (s : State) : Result := unrecognizedType s

/-- Message type `0x8` (R224). -/
def execUnrecMt8 (_g : U4) (_rest : BitVec 24) (s : State) : Result := unrecognizedType s

/-- Message type `0x9` (R224). -/
def execUnrecMt9 (_g : U4) (_rest : BitVec 24) (s : State) : Result := unrecognizedType s

/-- Message type `0xA` (R224). -/
def execUnrecMtA (_g : U4) (_rest : BitVec 24) (s : State) : Result := unrecognizedType s

/-- Message type `0xB` (R224). -/
def execUnrecMtB (_g : U4) (_rest : BitVec 24) (s : State) : Result := unrecognizedType s

/-- Message type `0xC` (R224). -/
def execUnrecMtC (_g : U4) (_rest : BitVec 24) (s : State) : Result := unrecognizedType s

/-- Message type `0xD` (R224). -/
def execUnrecMtD (_g : U4) (_rest : BitVec 24) (s : State) : Result := unrecognizedType s

/-- Message type `0xE` (R224). -/
def execUnrecMtE (_g : U4) (_rest : BitVec 24) (s : State) : Result := unrecognizedType s

/-- Message type `0xF` (R224). -/
def execUnrecMtF (_g : U4) (_rest : BitVec 24) (s : State) : Result := unrecognizedType s

end Sys2Proof.Machine
end

