-- ==== Sys2Proof/Machine/UmpMidi1.lean ====
section
/-! DEFINITION. Unit M2D: message type `0x2`, MIDI 1.0 channel voice (`43_ump_decoder.md` R237 to R245). -/

namespace Sys2Proof.Machine

/-- A row of message type `0x2` (one word, R71). -/
def cv1Row (s : State) (r : UmpResult) : Result := umpRow s 1 fun _ => r

/-- Status `0x8`, note off (R238). -/
def execUmpNoteOff (g ch : U4) (b2 b3 : Byte) (s : State) : Result :=
  cv1Row s (field7 b2 fun n => field7 b3 fun v => .event (.noteOff n v ch g))

/-- Status `0x9`, note on (R239): velocity 0 stays a `noteOn`. -/
def execUmpNoteOn (g ch : U4) (b2 b3 : Byte) (s : State) : Result :=
  cv1Row s (field7 b2 fun n => field7 b3 fun v => .event (.noteOn n v ch g))

/-- Status `0xA`, poly pressure (R240). -/
def execUmpPolyPressure (g ch : U4) (b2 b3 : Byte) (s : State) : Result :=
  cv1Row s (field7 b2 fun n => field7 b3 fun a => .event (.notePressure n a ch g))

/-- Status `0xB`, control change (R241). -/
def execUmpControlChange (g ch : U4) (b2 b3 : Byte) (s : State) : Result :=
  cv1Row s (field7 b2 fun c => field7 b3 fun v => .event (.cc c v ch g))

/-- Status `0xC`, program change (R242). -/
def execUmpProgramChange (g ch : U4) (b2 _b3 : Byte) (s : State) : Result :=
  cv1Row s (field7 b2 fun p => .event (.programChange p ch g))

/-- Status `0xD`, channel pressure (R243). -/
def execUmpChannelPressure (g ch : U4) (b2 _b3 : Byte) (s : State) : Result :=
  cv1Row s (field7 b2 fun a => .event (.pressure a ch g))

/-- Status `0xE`, pitch bend (R244). -/
def execUmpPitchBend (g ch : U4) (b2 b3 : Byte) (s : State) : Result :=
  cv1Row s (field7 b2 fun l => field7 b3 fun m => .event (.pitchBend (pkU14 m l) ch g))

/-- Status nibble `0x0..0x7` (R245). -/
def execCv1Unrec0_7 (_g : U4) (_status : BitVec 3) (_ch : U4) (_b2 _b3 : Byte) (s : State) : Result :=
  cv1Row s (.skip .unrecognizedStatus)

/-- Status nibble `0xF` (R245). -/
def execCv1UnrecF (_g _ch : U4) (_b2 _b3 : Byte) (s : State) : Result := cv1Row s (.skip .unrecognizedStatus)

end Sys2Proof.Machine
end

