-- ==== Sys2Proof/Machine/UmpMidi2.lean ====
section
/-! DEFINITION. Unit M2D: message type `0x4`, MIDI 2.0 channel voice (`43_ump_decoder.md` R250 to R266). -/

namespace Sys2Proof.Machine

/-- A row of message type `0x4` (two words, R71); the 32-bit field is word 1 unchanged unless the rule says otherwise (R250). -/
def cv2Row (s : State) (f : Word → UmpResult) : Result := umpRow s 2 fun ws => f (word1 ws)

/-- Status `0x0`, registered per-note controller (R251). -/
def execM2RegPnCtrl (g ch : U4) (b2 b3 : Byte) (s : State) : Result :=
  cv2Row s fun w1 => field7 b2 fun n => .event (.m2RegisteredPerNoteController n b3 w1 ch g)

/-- Status `0x1`, assignable per-note controller (R252). -/
def execM2AsgPnCtrl (g ch : U4) (b2 b3 : Byte) (s : State) : Result :=
  cv2Row s fun w1 => field7 b2 fun n => .event (.m2AssignablePerNoteController n b3 w1 ch g)

/-- Status `0x2`, registered controller (R253). -/
def execM2RegCtrl (g ch : U4) (b2 b3 : Byte) (s : State) : Result :=
  cv2Row s fun w1 => field7 b2 fun k => field7 b3 fun i => .event (.m2RegisteredController k i w1 ch g)

/-- Status `0x3`, assignable controller (R254). -/
def execM2AsgCtrl (g ch : U4) (b2 b3 : Byte) (s : State) : Result :=
  cv2Row s fun w1 => field7 b2 fun k => field7 b3 fun i => .event (.m2AssignableController k i w1 ch g)

/-- Status `0x4`, relative registered controller (R255). -/
def execM2RelRegCtrl (g ch : U4) (b2 b3 : Byte) (s : State) : Result :=
  cv2Row s fun w1 => field7 b2 fun k => field7 b3 fun i => .event (.m2RelativeRegisteredController k i w1 ch g)

/-- Status `0x5`, relative assignable controller (R256). -/
def execM2RelAsgCtrl (g ch : U4) (b2 b3 : Byte) (s : State) : Result :=
  cv2Row s fun w1 => field7 b2 fun k => field7 b3 fun i => .event (.m2RelativeAssignableController k i w1 ch g)

/-- Status `0x6`, per-note pitch bend (R257). -/
def execM2PnPitchBend (g ch : U4) (b2 _b3 : Byte) (s : State) : Result :=
  cv2Row s fun w1 => field7 b2 fun n => .event (.m2PerNotePitchBend n w1 ch g)

/-- Status `0x7`, reserved (R258). -/
def execM2Reserved7 (_g _ch : U4) (_b2 _b3 : Byte) (s : State) : Result := cv2Row s fun _ => .skip .unrecognizedStatus

/-- Status `0x8`, note off (R259). -/
def execM2NoteOff (g ch : U4) (b2 b3 : Byte) (s : State) : Result :=
  cv2Row s fun w1 => field7 b2 fun n => .event (.m2NoteOff n (hiHalf w1) b3 (loHalf w1) ch g)

/-- Status `0x9`, note on (R260). -/
def execM2NoteOn (g ch : U4) (b2 b3 : Byte) (s : State) : Result :=
  cv2Row s fun w1 => field7 b2 fun n => .event (.m2NoteOn n (hiHalf w1) b3 (loHalf w1) ch g)

/-- Status `0xA`, poly pressure (R261). -/
def execM2PolyPressure (g ch : U4) (b2 _b3 : Byte) (s : State) : Result :=
  cv2Row s fun w1 => field7 b2 fun n => .event (.m2NotePressure n w1 ch g)

/-- Status `0xB`, control change (R262). -/
def execM2ControlChange (g ch : U4) (b2 _b3 : Byte) (s : State) : Result :=
  cv2Row s fun w1 => field7 b2 fun i => .event (.m2CC i w1 ch g)

/-- Status `0xC`, program change (R263): the bank bytes are read only where `b3[0]` is 1. -/
def m2ProgramChangeResult (g ch : U4) (b3 : Byte) (w1 : Word) : UmpResult :=
  field7 (wordByte0 w1) fun p =>
    if b3.getLsbD 0 then
      field7 (wordByte2 w1) fun m => field7 (wordByte3 w1) fun l => .event (.m2ProgramChange p (some (m, l)) ch g)
    else .event (.m2ProgramChange p none ch g)

def execM2ProgramChange (g ch : U4) (_b2 b3 : Byte) (s : State) : Result := cv2Row s (m2ProgramChangeResult g ch b3)

/-- Status `0xD`, channel pressure (R264). -/
def execM2ChannelPressure (g ch : U4) (_b2 _b3 : Byte) (s : State) : Result :=
  cv2Row s fun w1 => .event (.m2Pressure w1 ch g)

/-- Status `0xE`, pitch bend (R265). -/
def execM2PitchBend (g ch : U4) (_b2 _b3 : Byte) (s : State) : Result :=
  cv2Row s fun w1 => .event (.m2PitchBend w1 ch g)

/-- Status `0xF`, per-note management (R266): `detach = b3[1]`, `reset = b3[0]`; word 1 must be present and is not read. -/
def execM2PnManagement (g ch : U4) (b2 b3 : Byte) (s : State) : Result :=
  cv2Row s fun _ => field7 b2 fun n => .event (.m2PerNoteManagement n (b3.getLsbD 1) (b3.getLsbD 0) ch g)

end Sys2Proof.Machine
end

