-- ==== Sys2Proof/Machine/UmpSystem.lean ====
section
/-! DEFINITION. Unit M2D: message type `0x1`, system common and real-time (`43_ump_decoder.md` R225 to R236). -/

namespace Sys2Proof.Machine

/-- A row of message type `0x1` (one word, R71). -/
def sys1Row (s : State) (r : UmpResult) : Result := umpRow s 1 fun _ => r

/-- Status `0xF1`, time-code quarter frame (R226). -/
def execUmpMtcQf (g : U4) (b2 _b3 : Byte) (s : State) : Result :=
  sys1Row s (field7 b2 fun d => .event (.timecodeQuarterFrame d g))

/-- Status `0xF2`, song position pointer (R227). -/
def execUmpSongPos (g : U4) (b2 b3 : Byte) (s : State) : Result :=
  sys1Row s (field7 b2 fun l => field7 b3 fun m => .event (.songPositionPointer (pkU14 m l) g))

/-- Status `0xF3`, song select (R228). -/
def execUmpSongSel (g : U4) (b2 _b3 : Byte) (s : State) : Result :=
  sys1Row s (field7 b2 fun d => .event (.songSelect d g))

/-- Status `0xF6`, tune request (R229). -/
def execUmpTuneReq (g : U4) (_b2 _b3 : Byte) (s : State) : Result := sys1Row s (.event (.tuneRequest g))

/-- Status `0xF8`, timing clock (R230). -/
def execUmpClock (g : U4) (_b2 _b3 : Byte) (s : State) : Result := sys1Row s (.event (.timingClock g))

/-- Status `0xFA`, start (R231). -/
def execUmpStart (g : U4) (_b2 _b3 : Byte) (s : State) : Result := sys1Row s (.event (.start g))

/-- Status `0xFB`, continue (R232). -/
def execUmpContinue (g : U4) (_b2 _b3 : Byte) (s : State) : Result := sys1Row s (.event (.continue_ g))

/-- Status `0xFC`, stop (R233). -/
def execUmpStop (g : U4) (_b2 _b3 : Byte) (s : State) : Result := sys1Row s (.event (.stop g))

/-- Status `0xFE`, active sensing (R234). -/
def execUmpActiveSense (g : U4) (_b2 _b3 : Byte) (s : State) : Result := sys1Row s (.event (.activeSensing g))

/-- Status `0xFF`, system reset (R235). -/
def execUmpSysReset (g : U4) (_b2 _b3 : Byte) (s : State) : Result := sys1Row s (.event (.systemReset g))

/-- Any other status byte (R236). -/
def sys1Unrecognized (s : State) : Result := sys1Row s (.skip .unrecognizedStatus)

/-- Status `0x00..0x7F` (R236). -/
def execSys1Unrec00_7F (_g : U4) (_low : BitVec 7) (_b2 _b3 : Byte) (s : State) : Result := sys1Unrecognized s

/-- Status `0x80..0xBF` (R236). -/
def execSys1Unrec80_BF (_g : U4) (_low : BitVec 6) (_b2 _b3 : Byte) (s : State) : Result := sys1Unrecognized s

/-- Status `0xC0..0xDF` (R236). -/
def execSys1UnrecC0_DF (_g : U4) (_low : BitVec 5) (_b2 _b3 : Byte) (s : State) : Result := sys1Unrecognized s

/-- Status `0xE0..0xEF` (R236). -/
def execSys1UnrecE0_EF (_g : U4) (_low : BitVec 4) (_b2 _b3 : Byte) (s : State) : Result := sys1Unrecognized s

/-- Status `0xF0` (R236). -/
def execSys1UnrecF0 (_g : U4) (_b2 _b3 : Byte) (s : State) : Result := sys1Unrecognized s

/-- Status `0xF4` (R236). -/
def execSys1UnrecF4 (_g : U4) (_b2 _b3 : Byte) (s : State) : Result := sys1Unrecognized s

/-- Status `0xF5` (R236). -/
def execSys1UnrecF5 (_g : U4) (_b2 _b3 : Byte) (s : State) : Result := sys1Unrecognized s

/-- Status `0xF7` (R236). -/
def execSys1UnrecF7 (_g : U4) (_b2 _b3 : Byte) (s : State) : Result := sys1Unrecognized s

/-- Status `0xF9` (R236). -/
def execSys1UnrecF9 (_g : U4) (_b2 _b3 : Byte) (s : State) : Result := sys1Unrecognized s

/-- Status `0xFD` (R236). -/
def execSys1UnrecFD (_g : U4) (_b2 _b3 : Byte) (s : State) : Result := sys1Unrecognized s

end Sys2Proof.Machine
end

