-- ==== Sys2Proof/Machine/Dispatch.lean ====
section
/-! DEFINITION. One arm per row of the opcode table: the meaning of each instruction. -/

namespace Sys2Proof.Machine

def exec (i : Instr) (s : State) : Host.Outcome State Fault Refusal :=
  match i with
  -- format M1B
  | .data value => Sys2Proof.Machine.execData value s
  | .noteOff channel => Sys2Proof.Machine.execNoteOff channel s
  | .noteOn channel => Sys2Proof.Machine.execNoteOn channel s
  | .polyPressure channel => Sys2Proof.Machine.execPolyPressure channel s
  | .controlChange channel => Sys2Proof.Machine.execControlChange channel s
  | .programChange channel => Sys2Proof.Machine.execProgramChange channel s
  | .channelPressure channel => Sys2Proof.Machine.execChannelPressure channel s
  | .pitchBend channel => Sys2Proof.Machine.execPitchBend channel s
  | .sox => Sys2Proof.Machine.execSox s
  | .mtcQf => Sys2Proof.Machine.execMtcQf s
  | .songPos => Sys2Proof.Machine.execSongPos s
  | .songSel => Sys2Proof.Machine.execSongSel s
  | .undefF4 => Sys2Proof.Machine.execUndefF4 s
  | .undefF5 => Sys2Proof.Machine.execUndefF5 s
  | .tuneReq => Sys2Proof.Machine.execTuneReq s
  | .eox => Sys2Proof.Machine.execEox s
  | .clock => Sys2Proof.Machine.execClock s
  | .undefF9 => Sys2Proof.Machine.execUndefF9 s
  | .start => Sys2Proof.Machine.execStart s
  | .continue_ => Sys2Proof.Machine.execContinue s
  | .stop => Sys2Proof.Machine.execStop s
  | .undefFD => Sys2Proof.Machine.execUndefFD s
  | .activeSense => Sys2Proof.Machine.execActiveSense s
  | .sysReset => Sys2Proof.Machine.execSysReset s
  -- format SYS1
  | .umpMtcQf group b2 b3 => Sys2Proof.Machine.execUmpMtcQf group b2 b3 s
  | .umpSongPos group b2 b3 => Sys2Proof.Machine.execUmpSongPos group b2 b3 s
  | .umpSongSel group b2 b3 => Sys2Proof.Machine.execUmpSongSel group b2 b3 s
  | .umpTuneReq group b2 b3 => Sys2Proof.Machine.execUmpTuneReq group b2 b3 s
  | .umpClock group b2 b3 => Sys2Proof.Machine.execUmpClock group b2 b3 s
  | .umpStart group b2 b3 => Sys2Proof.Machine.execUmpStart group b2 b3 s
  | .umpContinue group b2 b3 => Sys2Proof.Machine.execUmpContinue group b2 b3 s
  | .umpStop group b2 b3 => Sys2Proof.Machine.execUmpStop group b2 b3 s
  | .umpActiveSense group b2 b3 => Sys2Proof.Machine.execUmpActiveSense group b2 b3 s
  | .umpSysReset group b2 b3 => Sys2Proof.Machine.execUmpSysReset group b2 b3 s
  | .sys1Unrec00_7F group low b2 b3 => Sys2Proof.Machine.execSys1Unrec00_7F group low b2 b3 s
  | .sys1Unrec80_BF group low b2 b3 => Sys2Proof.Machine.execSys1Unrec80_BF group low b2 b3 s
  | .sys1UnrecC0_DF group low b2 b3 => Sys2Proof.Machine.execSys1UnrecC0_DF group low b2 b3 s
  | .sys1UnrecE0_EF group low b2 b3 => Sys2Proof.Machine.execSys1UnrecE0_EF group low b2 b3 s
  | .sys1UnrecF0 group b2 b3 => Sys2Proof.Machine.execSys1UnrecF0 group b2 b3 s
  | .sys1UnrecF4 group b2 b3 => Sys2Proof.Machine.execSys1UnrecF4 group b2 b3 s
  | .sys1UnrecF5 group b2 b3 => Sys2Proof.Machine.execSys1UnrecF5 group b2 b3 s
  | .sys1UnrecF7 group b2 b3 => Sys2Proof.Machine.execSys1UnrecF7 group b2 b3 s
  | .sys1UnrecF9 group b2 b3 => Sys2Proof.Machine.execSys1UnrecF9 group b2 b3 s
  | .sys1UnrecFD group b2 b3 => Sys2Proof.Machine.execSys1UnrecFD group b2 b3 s
  -- format CV1
  | .umpNoteOff group channel b2 b3 => Sys2Proof.Machine.execUmpNoteOff group channel b2 b3 s
  | .umpNoteOn group channel b2 b3 => Sys2Proof.Machine.execUmpNoteOn group channel b2 b3 s
  | .umpPolyPressure group channel b2 b3 => Sys2Proof.Machine.execUmpPolyPressure group channel b2 b3 s
  | .umpControlChange group channel b2 b3 => Sys2Proof.Machine.execUmpControlChange group channel b2 b3 s
  | .umpProgramChange group channel b2 b3 => Sys2Proof.Machine.execUmpProgramChange group channel b2 b3 s
  | .umpChannelPressure group channel b2 b3 => Sys2Proof.Machine.execUmpChannelPressure group channel b2 b3 s
  | .umpPitchBend group channel b2 b3 => Sys2Proof.Machine.execUmpPitchBend group channel b2 b3 s
  | .cv1Unrec0_7 group status channel b2 b3 => Sys2Proof.Machine.execCv1Unrec0_7 group status channel b2 b3 s
  | .cv1UnrecF group channel b2 b3 => Sys2Proof.Machine.execCv1UnrecF group channel b2 b3 s
  -- format SX7
  | .sx7Complete group nbytes b2 b3 => Sys2Proof.Machine.execSx7Complete group nbytes b2 b3 s
  | .sx7Start group nbytes b2 b3 => Sys2Proof.Machine.execSx7Start group nbytes b2 b3 s
  | .sx7Continue group nbytes b2 b3 => Sys2Proof.Machine.execSx7Continue group nbytes b2 b3 s
  | .sx7End group nbytes b2 b3 => Sys2Proof.Machine.execSx7End group nbytes b2 b3 s
  | .sx7Reserved4_7 group status nbytes b2 b3 => Sys2Proof.Machine.execSx7Reserved4_7 group status nbytes b2 b3 s
  | .sx7Reserved8_F group status nbytes b2 b3 => Sys2Proof.Machine.execSx7Reserved8_F group status nbytes b2 b3 s
  -- format CV2
  | .m2RegPnCtrl group channel b2 b3 => Sys2Proof.Machine.execM2RegPnCtrl group channel b2 b3 s
  | .m2AsgPnCtrl group channel b2 b3 => Sys2Proof.Machine.execM2AsgPnCtrl group channel b2 b3 s
  | .m2RegCtrl group channel b2 b3 => Sys2Proof.Machine.execM2RegCtrl group channel b2 b3 s
  | .m2AsgCtrl group channel b2 b3 => Sys2Proof.Machine.execM2AsgCtrl group channel b2 b3 s
  | .m2RelRegCtrl group channel b2 b3 => Sys2Proof.Machine.execM2RelRegCtrl group channel b2 b3 s
  | .m2RelAsgCtrl group channel b2 b3 => Sys2Proof.Machine.execM2RelAsgCtrl group channel b2 b3 s
  | .m2PnPitchBend group channel b2 b3 => Sys2Proof.Machine.execM2PnPitchBend group channel b2 b3 s
  | .m2Reserved7 group channel b2 b3 => Sys2Proof.Machine.execM2Reserved7 group channel b2 b3 s
  | .m2NoteOff group channel b2 b3 => Sys2Proof.Machine.execM2NoteOff group channel b2 b3 s
  | .m2NoteOn group channel b2 b3 => Sys2Proof.Machine.execM2NoteOn group channel b2 b3 s
  | .m2PolyPressure group channel b2 b3 => Sys2Proof.Machine.execM2PolyPressure group channel b2 b3 s
  | .m2ControlChange group channel b2 b3 => Sys2Proof.Machine.execM2ControlChange group channel b2 b3 s
  | .m2ProgramChange group channel b2 b3 => Sys2Proof.Machine.execM2ProgramChange group channel b2 b3 s
  | .m2ChannelPressure group channel b2 b3 => Sys2Proof.Machine.execM2ChannelPressure group channel b2 b3 s
  | .m2PitchBend group channel b2 b3 => Sys2Proof.Machine.execM2PitchBend group channel b2 b3 s
  | .m2PnManagement group channel b2 b3 => Sys2Proof.Machine.execM2PnManagement group channel b2 b3 s
  -- format D128
  | .d128 group rest => Sys2Proof.Machine.execD128 group rest s
  -- format UNREC
  | .unrecMt0 group rest => Sys2Proof.Machine.execUnrecMt0 group rest s
  | .unrecMt6 group rest => Sys2Proof.Machine.execUnrecMt6 group rest s
  | .unrecMt7 group rest => Sys2Proof.Machine.execUnrecMt7 group rest s
  | .unrecMt8 group rest => Sys2Proof.Machine.execUnrecMt8 group rest s
  | .unrecMt9 group rest => Sys2Proof.Machine.execUnrecMt9 group rest s
  | .unrecMtA group rest => Sys2Proof.Machine.execUnrecMtA group rest s
  | .unrecMtB group rest => Sys2Proof.Machine.execUnrecMtB group rest s
  | .unrecMtC group rest => Sys2Proof.Machine.execUnrecMtC group rest s
  | .unrecMtD group rest => Sys2Proof.Machine.execUnrecMtD group rest s
  | .unrecMtE group rest => Sys2Proof.Machine.execUnrecMtE group rest s
  | .unrecMtF group rest => Sys2Proof.Machine.execUnrecMtF group rest s
  -- format OP
  | .m1Reset target noz => Sys2Proof.Machine.execM1Reset target noz s
  | .cfgWrite inst v => Sys2Proof.Machine.execCfgWrite inst v s
  | .m1Packet inst bytes timestamp => Sys2Proof.Machine.execM1Packet inst bytes timestamp s
  | .sx7FromBytes bytes group => Sys2Proof.Machine.execSx7FromBytes bytes group s
  | .m2Decode words timestamp protocol => Sys2Proof.Machine.execM2Decode words timestamp protocol s
  | .packM1 event => Sys2Proof.Machine.execPackM1 event s
  | .packUmp event protocol => Sys2Proof.Machine.execPackUmp event protocol s
  | .bp32Enc value => Sys2Proof.Machine.execBp32Enc value s
  | .bp32Dec raw => Sys2Proof.Machine.execBp32Dec raw s
  | .u4Check x => Sys2Proof.Machine.execU4Check x s
  | .u7Check x => Sys2Proof.Machine.execU7Check x s
  | .mfrValid m => Sys2Proof.Machine.execMfrValid m s
  | .evMake raw => Sys2Proof.Machine.execEvMake raw s
  | .evEq a b => Sys2Proof.Machine.execEvEq a b s
  | .m1Abandon inst => Sys2Proof.Machine.execM1Abandon inst s
  | .opReservedF => Sys2Proof.Machine.execOpReservedF s

end Sys2Proof.Machine
end

