-- ==== Sys2Proof/Machine/Step.lean ====
section
/-! DEFINITION. The step of the block, and how an instruction is placed where the next step fetches it. -/

namespace Sys2Proof.Machine

/-- One step: an instruction fetched by `fetch` is decoded and executed; a packet whose bytes are used up ends (R161); with no operation
issued the block waits (R362). -/
def step (s : State) : Host.Outcome State Fault Refusal :=
  match fetch s with
  | .wait => .next s
  | .run e s' => exec (decode e) s'
  | .packetEnd h => finishPacket s h
  | .stop r => .fault r

/-- `s` with what `e` encodes where `step` fetches its next instruction (log 10): an operation at the head of the issued operations of a
quiescent block; a byte as the packet of an `M1.PACKET` in progress on instance 0, at `CUR` 0; a word as the first of four, the others
zero, of an `M2.DECODE` in progress. -/
def State.withFetched (s : State) : Encoded → State
  | .op r => { s with phase := .quiescent, requests := r :: s.requests }
  | .byte b =>
    let p := (s.parser? 0).getD (Parser.fresh Config.nozReset)
    { s with phase := .packet 0 [b], parsers := some { p with cur := 0 } :: s.parsers.drop 1 }
  | .word w => { s with phase := .group [w, 0#32, 0#32, 0#32] }

/-- `s` with the instruction whose bits are `w`, numbered as the opcode table numbers them, stored where `step` fetches its next instruction;
`s` itself where the number is no instruction of the table. -/
def State.withFetchWord (s : State) (nbits w : Nat) : State :=
  match tableEncoded nbits w with
  | .ok e => s.withFetched e
  | .error _ => s

end Sys2Proof.Machine
end

