-- ==== Sys2Proof/Safety.lean ====
section
/-! DEFINITION. What a safe state of the block is, and the vocabulary of the statements. -/

namespace Sys2Proof.Machine

/-! ### The invariant of the state (`10_state.md` R20 to R28; `60_exceptions.md` R331) -/

/-- A channel status byte (R61). -/
def isChannelStatus (b : Byte) : Bool := decide (0x80 ≤ b.toNat) && decide (b.toNat ≤ 0xEF)

/-- A status byte `PEND` may hold (R26). -/
def opensMessage (b : Byte) : Bool := isChannelStatus b || decide (b = 0xF1#8) || decide (b = 0xF2#8) || decide (b = 0xF3#8)

/-- A message being assembled has a status that opens one and fewer data bytes than it needs (R26). -/
structure Pending.Wf (m : Pending) : Prop where
  status : opensMessage m.st = true
  short  : ∃ n, need m.st = some n ∧ m.data.length < n

/-- What is true of an instance in every state the block reaches. -/
structure Parser.Wf (params : Params) (p : Parser) : Prop where
  /-- "`MODE = Idle` implies `SXBUF = []`" (R22). -/
  idleBuffer : p.mode = .idle → p.sxbuf = []
  /-- "`PEND` is always `none` while `MODE = CollectingSysEx`" (R26). -/
  collectingPend : p.mode = .collectingSysEx → p.pend = none
  /-- "`RS` and `PEND` are already `none` in this mode" (R187). -/
  collectingRs : p.mode = .collectingSysEx → p.rs = none
  /-- `RS` is `none` or a byte in `0x80..0xEF` (R24). -/
  rsRange : ∀ st, p.rs = some st → isChannelStatus st = true
  /-- With `RS_SCOPE = NONE` the register "is never written and always reads `none`" (R24). -/
  rsScope : params.rsScope = .none → p.rs = none
  /-- `PEND` is `none` or an unfinished message (R26). -/
  pending : ∀ m, p.pend = some m → m.Wf

/-- What is true of every state the block reaches. -/
structure State.Inv (s : State) : Prop where
  parsers : ∀ h p, s.parser? h = some p → p.Wf s.params
  /-- `PEND` "is set to `none` at the start and at the end of every packet" (R26). -/
  between : ∀ h p, s.parser? h = some p → (∀ pkt, s.phase ≠ .packet h pkt) → p.pend = none
  /-- `0 <= CUR <= len(PKT)` (R20, R27). -/
  packet : ∀ h pkt, s.phase = .packet h pkt → ∃ p, s.parser? h = some p ∧ p.cur ≤ pkt.length
  /-- A packet of no words is never opened (R221). -/
  group : ∀ ws, s.phase = .group ws → ws ≠ []

/-! ### Operations and instances -/

end Sys2Proof.Machine

namespace Sys2Proof

/-- The M1P instance an instruction names as an operand (R81). A byte row names none: it acts on the instance of the packet in
progress. -/
def Instr.names : Instr → Option Nat
  | .m1Reset target _ => target
  | .cfgWrite inst _ => some inst
  | .m1Packet inst _ _ => some inst
  | .m1Abandon inst => some inst
  | _ => none

end Sys2Proof

namespace Sys2Proof.Machine

/-- The first instruction of a state's issued operations names instance `k`. -/
def State.headNames (s : State) (k : Nat) : Prop :=
  ∃ r rest, s.requests = r :: rest ∧ (decode (.op r)).names = some k

/-- A change of the next state; faults and refusals stay. -/
def mapNext (f : State → State) : Result → Result
  | .next s => .next (f s)
  | .fault r => .fault r
  | .refused r => .refused r

/-- A number of steps, to the first fault or refusal. -/
def runs : Nat → State → Result
  | 0, s => .next s
  | k + 1, s =>
    match step s with
    | .next t => runs k t
    | .fault r => .fault r
    | .refused r => .refused r

/-- The end of `M2.DECODE` with result `e` (R221): nothing is written but the outcome. -/
def decoded (s : State) (e : Option Event) : Result :=
  .next { s with phase := .quiescent, replies := s.replies ++ [.decoded e] }

/-- The results of delivering packets one after another to an instance (R51). -/
def deliver (params : Params) : List (List Byte) → Parser → List (List Event)
  | [], _ => []
  | pkt :: rest, p => (m1Packet params pkt p).out :: deliver params rest (m1Packet params pkt p)

/-! ### Events -/

end Sys2Proof.Machine

namespace Sys2Proof

/-- The `group` of an Event (R140). -/
def Event.group : Event → U4
  | .noteOff _ _ _ group => group
  | .noteOn _ _ _ group => group
  | .notePressure _ _ _ group => group
  | .cc _ _ _ group => group
  | .programChange _ _ group => group
  | .pressure _ _ group => group
  | .pitchBend _ _ group => group
  | .timecodeQuarterFrame _ group => group
  | .songPositionPointer _ group => group
  | .songSelect _ group => group
  | .tuneRequest group => group
  | .timingClock group => group
  | .start group => group
  | .continue_ group => group
  | .stop group => group
  | .activeSensing group => group
  | .systemReset group => group
  | .sysEx7 _ _ group => group
  | .m2RegisteredPerNoteController _ _ _ _ group => group
  | .m2AssignablePerNoteController _ _ _ _ group => group
  | .m2RegisteredController _ _ _ _ group => group
  | .m2AssignableController _ _ _ _ group => group
  | .m2RelativeRegisteredController _ _ _ _ group => group
  | .m2RelativeAssignableController _ _ _ _ group => group
  | .m2PerNotePitchBend _ _ _ group => group
  | .m2NoteOff _ _ _ _ _ group => group
  | .m2NoteOn _ _ _ _ _ group => group
  | .m2NotePressure _ _ _ group => group
  | .m2CC _ _ _ group => group
  | .m2ProgramChange _ _ _ group => group
  | .m2Pressure _ _ group => group
  | .m2PitchBend _ _ group => group
  | .m2PerNoteManagement _ _ _ _ group => group

/-- A MIDI 2.0 variant (R144). -/
def Event.isMidi2 : Event → Bool
  | .noteOff _ _ _ _ => false
  | .noteOn _ _ _ _ => false
  | .notePressure _ _ _ _ => false
  | .cc _ _ _ _ => false
  | .programChange _ _ _ => false
  | .pressure _ _ _ => false
  | .pitchBend _ _ _ => false
  | .timecodeQuarterFrame _ _ => false
  | .songPositionPointer _ _ => false
  | .songSelect _ _ => false
  | .tuneRequest _ => false
  | .timingClock _ => false
  | .start _ => false
  | .continue_ _ => false
  | .stop _ => false
  | .activeSensing _ => false
  | .systemReset _ => false
  | .sysEx7 _ _ _ => false
  | .m2RegisteredPerNoteController _ _ _ _ _ => true
  | .m2AssignablePerNoteController _ _ _ _ _ => true
  | .m2RegisteredController _ _ _ _ _ => true
  | .m2AssignableController _ _ _ _ _ => true
  | .m2RelativeRegisteredController _ _ _ _ _ => true
  | .m2RelativeAssignableController _ _ _ _ _ => true
  | .m2PerNotePitchBend _ _ _ _ => true
  | .m2NoteOff _ _ _ _ _ _ => true
  | .m2NoteOn _ _ _ _ _ _ => true
  | .m2NotePressure _ _ _ _ => true
  | .m2CC _ _ _ _ => true
  | .m2ProgramChange _ _ _ _ => true
  | .m2Pressure _ _ _ => true
  | .m2PitchBend _ _ _ => true
  | .m2PerNoteManagement _ _ _ _ _ => true

end Sys2Proof

namespace Sys2Proof.Machine

/-- The operand integers of a manufacturer, in order (R120). -/
def mfrFields : RawMfr → List (RangeType × Field × Int)
  | .oneByte b => [(.uint7, .manufacturer, b)]
  | .threeByte b2 b3 => [(.uint7, .manufacturer, b2), (.uint7, .manufacturer, b3)]

/-- The operand integers of a bank (R144). -/
def bankFields : Option (Int × Int) → List (RangeType × Field × Int)
  | none => []
  | some (msb, lsb) => [(.uint7, .bank, msb), (.uint7, .bank, lsb)]

/-- The operand integer of a group that is given. -/
def groupField : Option Int → List (RangeType × Field × Int)
  | none => []
  | some g => [(.uint4, .group, g)]

/-- The checks `EV.MAKE` makes, in its order: "each field in the order of the tables of rules R141 to R144, then `channel` where the variant has
one, then `group`" (R145), each with the type of the field. The parts of a manufacturer, of data and of a bank stand first to last, which is
the model's choice (log 21). -/
def checkedFields : RawEvent → List (RangeType × Field × Int)
  | .noteOff note velocity channel group => [(.uint7, .note, note), (.uint7, .velocity, velocity), (.uint4, .channel, channel)] ++ groupField group
  | .noteOn note velocity channel group => [(.uint7, .note, note), (.uint7, .velocity, velocity), (.uint4, .channel, channel)] ++ groupField group
  | .notePressure note amount channel group => [(.uint7, .note, note), (.uint7, .amount, amount), (.uint4, .channel, channel)] ++ groupField group
  | .cc controller value channel group => [(.uint7, .controller, controller), (.uint7, .value, value), (.uint4, .channel, channel)] ++ groupField group
  | .programChange program channel group => [(.uint7, .program, program), (.uint4, .channel, channel)] ++ groupField group
  | .pressure amount channel group => [(.uint7, .amount, amount), (.uint4, .channel, channel)] ++ groupField group
  | .pitchBend value channel group => [(.uint14, .value, value), (.uint4, .channel, channel)] ++ groupField group
  | .timecodeQuarterFrame dataByte group => [(.uint7, .dataByte, dataByte)] ++ groupField group
  | .songPositionPointer midiBeat group => [(.uint14, .midiBeat, midiBeat)] ++ groupField group
  | .songSelect number group => [(.uint7, .number, number)] ++ groupField group
  | .tuneRequest group => groupField group
  | .timingClock group => groupField group
  | .start group => groupField group
  | .continue_ group => groupField group
  | .stop group => groupField group
  | .activeSensing group => groupField group
  | .systemReset group => groupField group
  | .sysEx7 manufacturer data group => mfrFields manufacturer ++ data.map (fun x => (.uint7, .data, x)) ++ groupField group
  | .m2RegisteredPerNoteController note index value channel group => [(.uint7, .note, note), (.uint8, .index, index), (.uint32, .value, value), (.uint4, .channel, channel)] ++ groupField group
  | .m2AssignablePerNoteController note index value channel group => [(.uint7, .note, note), (.uint8, .index, index), (.uint32, .value, value), (.uint4, .channel, channel)] ++ groupField group
  | .m2RegisteredController bank index value channel group => [(.uint7, .bank, bank), (.uint7, .index, index), (.uint32, .value, value), (.uint4, .channel, channel)] ++ groupField group
  | .m2AssignableController bank index value channel group => [(.uint7, .bank, bank), (.uint7, .index, index), (.uint32, .value, value), (.uint4, .channel, channel)] ++ groupField group
  | .m2RelativeRegisteredController bank index delta channel group => [(.uint7, .bank, bank), (.uint7, .index, index), (.uint32, .delta, delta), (.uint4, .channel, channel)] ++ groupField group
  | .m2RelativeAssignableController bank index delta channel group => [(.uint7, .bank, bank), (.uint7, .index, index), (.uint32, .delta, delta), (.uint4, .channel, channel)] ++ groupField group
  | .m2PerNotePitchBend note value channel group => [(.uint7, .note, note), (.uint32, .value, value), (.uint4, .channel, channel)] ++ groupField group
  | .m2NoteOff note velocity attrType attrData channel group => [(.uint7, .note, note), (.uint16, .velocity, velocity), (.uint8, .attrType, attrType), (.uint16, .attrData, attrData), (.uint4, .channel, channel)] ++ groupField group
  | .m2NoteOn note velocity attrType attrData channel group => [(.uint7, .note, note), (.uint16, .velocity, velocity), (.uint8, .attrType, attrType), (.uint16, .attrData, attrData), (.uint4, .channel, channel)] ++ groupField group
  | .m2NotePressure note value channel group => [(.uint7, .note, note), (.uint32, .value, value), (.uint4, .channel, channel)] ++ groupField group
  | .m2CC index value channel group => [(.uint7, .index, index), (.uint32, .value, value), (.uint4, .channel, channel)] ++ groupField group
  | .m2ProgramChange program bank channel group => [(.uint7, .program, program)] ++ bankFields bank ++ [(.uint4, .channel, channel)] ++ groupField group
  | .m2Pressure value channel group => [(.uint32, .value, value), (.uint4, .channel, channel)] ++ groupField group
  | .m2PitchBend value channel group => [(.uint32, .value, value), (.uint4, .channel, channel)] ++ groupField group
  | .m2PerNoteManagement note _ _ channel group => [(.uint7, .note, note), (.uint4, .channel, channel)] ++ groupField group

/-- The greatest value of a type (R100 to R102, R110). -/
def RangeType.top : RangeType → Int
  | .uint4 => 15
  | .uint7 => 127
  | .uint8 => 255
  | .uint14 => 16383
  | .uint16 => 65535
  | .uint32 => 4294967295
  | .bipolar32 => 4294967295

/-- An integer is in the range of a type. -/
def inRange (c : RangeType × Field × Int) : Bool := decide (0 ≤ c.2.2) && decide (c.2.2 ≤ c.1.top)

/-- "A `group` that is not given is 0" (R145). -/
def fillGroup : RawEvent → RawEvent
  | .noteOff note velocity channel group => .noteOff note velocity channel (some (group.getD 0))
  | .noteOn note velocity channel group => .noteOn note velocity channel (some (group.getD 0))
  | .notePressure note amount channel group => .notePressure note amount channel (some (group.getD 0))
  | .cc controller value channel group => .cc controller value channel (some (group.getD 0))
  | .programChange program channel group => .programChange program channel (some (group.getD 0))
  | .pressure amount channel group => .pressure amount channel (some (group.getD 0))
  | .pitchBend value channel group => .pitchBend value channel (some (group.getD 0))
  | .timecodeQuarterFrame dataByte group => .timecodeQuarterFrame dataByte (some (group.getD 0))
  | .songPositionPointer midiBeat group => .songPositionPointer midiBeat (some (group.getD 0))
  | .songSelect number group => .songSelect number (some (group.getD 0))
  | .tuneRequest group => .tuneRequest (some (group.getD 0))
  | .timingClock group => .timingClock (some (group.getD 0))
  | .start group => .start (some (group.getD 0))
  | .continue_ group => .continue_ (some (group.getD 0))
  | .stop group => .stop (some (group.getD 0))
  | .activeSensing group => .activeSensing (some (group.getD 0))
  | .systemReset group => .systemReset (some (group.getD 0))
  | .sysEx7 manufacturer data group => .sysEx7 manufacturer data (some (group.getD 0))
  | .m2RegisteredPerNoteController note index value channel group => .m2RegisteredPerNoteController note index value channel (some (group.getD 0))
  | .m2AssignablePerNoteController note index value channel group => .m2AssignablePerNoteController note index value channel (some (group.getD 0))
  | .m2RegisteredController bank index value channel group => .m2RegisteredController bank index value channel (some (group.getD 0))
  | .m2AssignableController bank index value channel group => .m2AssignableController bank index value channel (some (group.getD 0))
  | .m2RelativeRegisteredController bank index delta channel group => .m2RelativeRegisteredController bank index delta channel (some (group.getD 0))
  | .m2RelativeAssignableController bank index delta channel group => .m2RelativeAssignableController bank index delta channel (some (group.getD 0))
  | .m2PerNotePitchBend note value channel group => .m2PerNotePitchBend note value channel (some (group.getD 0))
  | .m2NoteOff note velocity attrType attrData channel group => .m2NoteOff note velocity attrType attrData channel (some (group.getD 0))
  | .m2NoteOn note velocity attrType attrData channel group => .m2NoteOn note velocity attrType attrData channel (some (group.getD 0))
  | .m2NotePressure note value channel group => .m2NotePressure note value channel (some (group.getD 0))
  | .m2CC index value channel group => .m2CC index value channel (some (group.getD 0))
  | .m2ProgramChange program bank channel group => .m2ProgramChange program bank channel (some (group.getD 0))
  | .m2Pressure value channel group => .m2Pressure value channel (some (group.getD 0))
  | .m2PitchBend value channel group => .m2PitchBend value channel (some (group.getD 0))
  | .m2PerNoteManagement note detach reset channel group => .m2PerNoteManagement note detach reset channel (some (group.getD 0))

/-! ### The scaler -/

/-- A rational that is a binary64 value, the greatest exponent left aside: 53 significant bits, no finer than `2 ^ -1074` (R12). -/
def IsBinary64 (q : Rat) : Prop := ∃ m e : Int, |m| < 2 ^ 53 ∧ -1074 ≤ e ∧ q = (m : Rat) * (2 : Rat) ^ e

/-- `m` is the significand, and `e` the exponent of its last bit, of a binary64 value: all 53 bits are used unless the value is subnormal or
zero, where the last bit is `2 ^ -1074`. The significand of a binary64 value is unique. -/
def IsSignificand64 (m e : Int) : Prop := |m| < 2 ^ 53 ∧ -1074 ≤ e ∧ (2 ^ 52 ≤ |m| ∨ e = -1074)

end Sys2Proof.Machine
end

