-- ==== Sys2Proof/Certificates/Slice0/Obligations.lean ====
section
/-! DEFINITION. The statements for the provers. Each docstring names the rules it formalises. Instances are read with `State.parser?`; a result
that writes an instance is written with `State.setParser`, which changes that instance and nothing else; an outcome is appended with
`State.reply`, which changes nothing else. So an equation with a next state says what changes and that all else stays. -/

open Sys2Proof Sys2Proof.Machine

/-! ### Encoding -/

/-- Every instruction is read back from its encoding, and every byte, word and operation code from the instruction it decodes to
(R60 to R84). That a word is its instruction's encoding bit for bit, unread bits included, and that only the operation code of a request comes
back, are the model's choice: it keeps the unread bits of a word in the instruction, and not the unread ports (log 19). -/
def Obligations.DecodeEncodeRoundTrip : Prop :=
  (∀ i : Instr, decode (encode i) = i) ∧
  (∀ b : Byte, encode (decode (.byte b)) = .byte b) ∧
  (∀ w : Word, encode (decode (.word w)) = .word w) ∧
  (∀ r : Request, ∃ ports, encode (decode (.op r)) = .op ⟨r.opsel, ports⟩)

/-- Exactly one row of the opcode table matches an input, and it is the row of the instruction the decoder gives (R84). -/
def Obligations.OneTableRowPerInput : Prop :=
  ∀ e : Encoded, ∃ r ∈ opcodeTable, r.fits e = true ∧ r.mnemonic = (decode e).mnemonic ∧
    ∀ r' ∈ opcodeTable, r'.fits e = true → r' = r

/-- Words and bytes written in the spec's examples decode to the instructions they stand for. -/
def Obligations.ExampleWordsDecode : Prop :=
  decode (.byte 0x95#8) = .noteOn 5#4 ∧
  decode (.byte 0x3C#8) = .data 0x3C#7 ∧
  decode (.byte 0xF7#8) = .eox ∧
  decode (.word 0x15F20801#32) = .umpSongPos 5#4 0x08#8 0x01#8 ∧
  decode (.word 0x20903C40#32) = .umpNoteOn 0#4 0#4 0x3C#8 0x40#8 ∧
  decode (.word 0x30034101#32) = .sx7Complete 0#4 3#4 0x41#8 0x01#8 ∧
  decode (.word 0x40623C00#32) = .m2PnPitchBend 0#4 2#4 0x3C#8 0x00#8 ∧
  decode (.word 0x50000000#32) = .d128 0#4 0#24 ∧
  decode (.word 0xF0000000#32) = .unrecMtF 0#4 0#24 ∧
  decode (.op ⟨0x8#4, { Ports.zero with raw := 0x40000000#32 }⟩) = .bp32Dec 0x40000000#32

/-! ### The step -/

/-- A step runs the instruction decoded from where the block fetches: the first issued operation, `PKT[CUR]`, or `WPKT[0]`
(R27, R51, R162, R221). With no operation issued nothing changes (log 17). -/
def Obligations.StepRunsTheDecodedInstruction : Prop :=
  ∀ s : State,
    (∀ r rest, s.phase = .quiescent → s.requests = r :: rest →
      step s = exec (decode (.op r)) { s with requests := rest }) ∧
    (∀ h pkt p b, s.phase = .packet h pkt → s.parser? h = some p → pkt[p.cur]? = some b →
      step s = exec (decode (.byte b)) s) ∧
    (∀ w ws, s.phase = .group (w :: ws) → step s = exec (decode (.word w)) s) ∧
    (s.phase = .quiescent → s.requests = [] → step s = .next s)

/-- A step never writes the parameters, takes at most the first issued operation, and appends at most one outcome: outcomes are never
changed or removed (R6, R362). -/
def Obligations.StepOnlyAppendsOutcomes : Prop :=
  ∀ s t : State, step s = .next t →
    t.params = s.params ∧
    (t.requests = s.requests ∨ ∃ r, s.requests = r :: t.requests) ∧
    (t.replies = s.replies ∨ ∃ r, t.replies = s.replies ++ [r])

/-- `M1.PACKET` starts (R163): `PEND`, `OUT`, `CUR` are initialised, `RS` is cleared unless its scope is the connection; the packet's bytes
are next. `MODE` and `SXBUF` stay. That the packet then waits in the state, one byte a step, is log 2. -/
def Obligations.PacketStart : Prop :=
  ∀ (s : State) (h : Nat) (p : Parser) (bytes : List Byte) (ts : BitVec 64),
    s.phase = .quiescent → s.parser? h = some p →
    exec (.m1Packet h bytes ts) s =
      .next { s.setParser h (some { p with
          pend := none, out := [], cur := 0, rs := if s.params.rsScope = .connection then p.rs else none }) with
        phase := .packet h bytes }

/-- The end of a packet (R164): an unfinished message is dropped without an event, `MODE` and `SXBUF` are kept, `OUT` is the outcome.
No rule writes `CUR` or `OUT` here, so both keep their values (log 12). -/
def Obligations.PacketEnd : Prop :=
  ∀ (s : State) (h : Nat) (pkt : List Byte) (p : Parser),
    s.phase = .packet h pkt → s.parser? h = some p → p.cur = pkt.length →
    step s =
      .next { s.setParser h (some { p with pend := none }) with
        phase := .quiescent, replies := s.replies ++ [.events p.out] }

/-! ### The byte rows of unit M1P -/

/-- A channel status byte in `Idle` opens its message and becomes the running status unless `RS_SCOPE` is `NONE` (R169). -/
def Obligations.ChannelStatusOpensMessage : Prop :=
  ∀ (s : State) (h : Nat) (pkt : List Byte) (p : Parser) (n : U4),
    s.phase = .packet h pkt → s.parser? h = some p → p.mode = .idle →
    let opened (st : Byte) : Result :=
      .next (s.setParser h (some { p with
        pend := some ⟨st, []⟩, rs := if s.params.rsScope = .none then p.rs else some st, cur := p.cur + 1 }))
    exec (.noteOff n) s = opened (0x8#4 ++ n) ∧
    exec (.noteOn n) s = opened (0x9#4 ++ n) ∧
    exec (.polyPressure n) s = opened (0xA#4 ++ n) ∧
    exec (.controlChange n) s = opened (0xB#4 ++ n) ∧
    exec (.programChange n) s = opened (0xC#4 ++ n) ∧
    exec (.channelPressure n) s = opened (0xD#4 ++ n) ∧
    exec (.pitchBend n) s = opened (0xE#4 ++ n)

/-- A data byte in `Idle` (R167): skipped with no status to attach to; otherwise it joins `PEND`, or opens a message by running status, and
the message completes at its last data byte. -/
def Obligations.DataByteInIdle : Prop :=
  ∀ (s : State) (h : Nat) (pkt : List Byte) (p : Parser) (v : U7),
    s.phase = .packet h pkt → s.parser? h = some p → p.mode = .idle →
    let goes (q : Parser) : Result := .next (s.setParser h (some { q with cur := p.cur + 1 }))
    (p.pend = none → p.rs = none → exec (.data v) s = goes p) ∧
    (∀ st d n, (p.pend = some ⟨st, d⟩ ∨ p.pend = none ∧ p.rs = some st ∧ d = []) → need st = some n →
      (d.length + 1 ≠ n → exec (.data v) s = goes { p with pend := some ⟨st, d ++ [v]⟩ }) ∧
      (d.length + 1 = n →
        exec (.data v) s = goes { p with pend := none, out := p.out ++ (messageEvent p.noz st (d ++ [v])).toList }))

/-- The Events of the channel messages (R171 to R177), emitted by the last data byte. -/
def Obligations.ChannelMessagesComplete : Prop :=
  ∀ (s : State) (h : Nat) (pkt : List Byte) (p : Parser) (n : U4) (a b : U7),
    s.phase = .packet h pkt → s.parser? h = some p → p.mode = .idle →
    let emits (v : U7) (e : Event) : Prop :=
      exec (.data v) s = .next (s.setParser h (some { p with pend := none, out := p.out ++ [e], cur := p.cur + 1 }))
    (p.pend = some ⟨0x8#4 ++ n, [a]⟩ → emits b (.noteOff a b n 0#4)) ∧
    (p.pend = some ⟨0x9#4 ++ n, [a]⟩ →
      emits b (if b = 0#7 ∧ p.noz = true then .noteOff a 0#7 n 0#4 else .noteOn a b n 0#4)) ∧
    (p.pend = some ⟨0xA#4 ++ n, [a]⟩ → emits b (.notePressure a b n 0#4)) ∧
    (p.pend = some ⟨0xB#4 ++ n, [a]⟩ → emits b (.cc a b n 0#4)) ∧
    (p.pend = some ⟨0xC#4 ++ n, []⟩ → emits b (.programChange b n 0#4)) ∧
    (p.pend = some ⟨0xD#4 ++ n, []⟩ → emits b (.pressure b n 0#4)) ∧
    (p.pend = some ⟨0xE#4 ++ n, [a]⟩ → emits b (.pitchBend (b ++ a) n 0#4))

/-- Note On with velocity 0 (R178): re-interpreted by the MIDI 1.0 parser when `CFG.NOZ` is 1, and by nothing else. -/
def Obligations.NoteOnVelocityZero : Prop :=
  ∀ (s : State) (n g : U4) (a : U7),
    (∀ h pkt p, s.phase = .packet h pkt → s.parser? h = some p → p.mode = .idle → p.pend = some ⟨0x9#4 ++ n, [a]⟩ →
      exec (.data 0#7) s = .next (s.setParser h (some { p with
        pend := none, cur := p.cur + 1,
        out := p.out ++ [if p.noz = true then .noteOff a 0#7 n 0#4 else .noteOn a 0#7 n 0#4] }))) ∧
    (∀ ws, s.phase = .group ws → ws ≠ [] →
      exec (.umpNoteOn g n (0#1 ++ a) 0x00#8) s = decoded s (some (.noteOn a 0#7 n g))) ∧
    exec (.evMake (.noteOn a.toNat 0 n.toNat (some g.toNat))) s = .next (s.reply (.event (.noteOn a 0#7 n g))) ∧
    exec (.packM1 (.noteOn a 0#7 n g)) s = .next (s.reply (.bytes [0x9#4 ++ n, 0#1 ++ a, 0x00#8])) ∧
    (∀ protocol, exec (.packUmp (.noteOn a 0#7 n g) protocol) s =
      .next (s.reply (.groups [[0x2#4 ++ g ++ 0x9#4 ++ n ++ (0#1 ++ a) ++ 0x00#8]])))

/-- `MTC_QF`, `SONG_POS` and `SONG_SEL` in `Idle` (R180 to R182): the status byte clears the running status and opens the message; the
last data byte emits its Event. -/
def Obligations.SystemMessagesInIdle : Prop :=
  ∀ (s : State) (h : Nat) (pkt : List Byte) (p : Parser) (a b : U7),
    s.phase = .packet h pkt → s.parser? h = some p → p.mode = .idle →
    let opened (st : Byte) : Result :=
      .next (s.setParser h (some { p with rs := none, pend := some ⟨st, []⟩, cur := p.cur + 1 }))
    let emits (e : Event) : Prop :=
      exec (.data b) s = .next (s.setParser h (some { p with pend := none, out := p.out ++ [e], cur := p.cur + 1 }))
    exec .mtcQf s = opened 0xF1#8 ∧
    exec .songPos s = opened 0xF2#8 ∧
    exec .songSel s = opened 0xF3#8 ∧
    (p.pend = some ⟨0xF1#8, []⟩ → emits (.timecodeQuarterFrame b 0#4)) ∧
    (p.pend = some ⟨0xF2#8, [a]⟩ → emits (.songPositionPointer (b ++ a) 0#4)) ∧
    (p.pend = some ⟨0xF3#8, []⟩ → emits (.songSelect b 0#4))

/-- The other system-common bytes in `Idle` (R179, R183 to R186): each cancels running status and the unfinished message; `0xF0` opens a
SysEx, `0xF6` emits its Event. -/
def Obligations.SystemBytesInIdle : Prop :=
  ∀ (s : State) (h : Nat) (pkt : List Byte) (p : Parser),
    s.phase = .packet h pkt → s.parser? h = some p → p.mode = .idle →
    let cancelled : Parser := { p with rs := none, pend := none, cur := p.cur + 1 }
    let goes (q : Parser) : Result := .next (s.setParser h (some q))
    exec .sox s = goes { cancelled with mode := .collectingSysEx, sxbuf := [] } ∧
    exec .undefF4 s = goes cancelled ∧
    exec .undefF5 s = goes cancelled ∧
    exec .tuneReq s = goes { cancelled with out := p.out ++ [.tuneRequest 0#4] } ∧
    exec .eox s = goes cancelled

/-- `CollectingSysEx` (R187, R188, R190): a data byte is appended to `SXBUF`; `0xF7` ends the collection, emits the Event `SX7.FROMBYTES` gives
for the frame, and leaves `Idle` with an empty buffer; only a missing or incomplete manufacturer ID drops the message. -/
def Obligations.SysExCollection : Prop :=
  ∀ (s : State) (h : Nat) (pkt : List Byte) (p : Parser),
    s.phase = .packet h pkt → s.parser? h = some p → p.mode = .collectingSysEx →
    let closed (es : List Event) : Result :=
      .next (s.setParser h (some { p with mode := .idle, sxbuf := [], out := p.out ++ es, cur := p.cur + 1 }))
    (∀ v, exec (.data v) s = .next (s.setParser h (some { p with sxbuf := p.sxbuf ++ [v], cur := p.cur + 1 }))) ∧
    exec .eox s = closed
      (match sx7FromBytes ([0xF0#8] ++ p.sxbuf.map (fun v => 0#1 ++ v) ++ [0xF7#8]) 0#4 with
        | .ok e => [e]
        | .error _ => []) ∧
    (p.sxbuf = [] → exec .eox s = closed []) ∧
    (∀ b d, p.sxbuf = b :: d → b ≠ 0#7 → exec .eox s = closed [.sysEx7 (.oneByte b) d 0#4]) ∧
    (∀ b2 b3 d, p.sxbuf = 0#7 :: b2 :: b3 :: d → exec .eox s = closed [.sysEx7 (.threeByte b2 b3) d 0#4]) ∧
    (∀ d, p.sxbuf = 0#7 :: d → d.length < 2 → exec .eox s = closed [])

/-- A status byte `0x80..0xF6` in `CollectingSysEx` ends the SysEx, then acts as it does in `Idle` (R189). Ending it (R190) leaves `Idle` with
an empty buffer and appends the Event of the collected bytes; only a missing or incomplete manufacturer ID drops it. -/
def Obligations.StatusByteEndsSysEx : Prop :=
  ∀ (s : State) (h : Nat) (pkt : List Byte) (p : Parser) (n : U4),
    s.phase = .packet h pkt → s.parser? h = some p → p.mode = .collectingSysEx →
    ∃ es : List Event,
      (p.sxbuf = [] → es = []) ∧
      (∀ b d, p.sxbuf = b :: d → b ≠ 0#7 → es = [.sysEx7 (.oneByte b) d 0#4]) ∧
      (∀ b2 b3 d, p.sxbuf = 0#7 :: b2 :: b3 :: d → es = [.sysEx7 (.threeByte b2 b3) d 0#4]) ∧
      (∀ d, p.sxbuf = 0#7 :: d → d.length < 2 → es = []) ∧
      let ended : Parser := { p with mode := .idle, sxbuf := [], out := p.out ++ es }
      let finished : State := s.setParser h (some ended)
      let acts (i : Instr) : Prop :=
        ∃ q, exec i finished = .next (s.setParser h (some q)) ∧ exec i s = .next (s.setParser h (some q))
      sxFinish p = ended ∧
      acts (.noteOff n) ∧ acts (.noteOn n) ∧ acts (.polyPressure n) ∧ acts (.controlChange n) ∧
      acts (.programChange n) ∧ acts (.channelPressure n) ∧ acts (.pitchBend n) ∧
      acts .sox ∧ acts .mtcQf ∧ acts .songPos ∧ acts .songSel ∧ acts .undefF4 ∧ acts .undefF5 ∧ acts .tuneReq

/-- The real-time bytes are transparent in either mode (R191 to R199): each emits its Event, or is skipped, and writes nothing else. -/
def Obligations.RealTimeBytesTransparent : Prop :=
  ∀ (s : State) (h : Nat) (pkt : List Byte) (p : Parser),
    s.phase = .packet h pkt → s.parser? h = some p →
    let emits (es : List Event) : Result :=
      .next (s.setParser h (some { p with out := p.out ++ es, cur := p.cur + 1 }))
    exec .clock s = emits [.timingClock 0#4] ∧
    exec .undefF9 s = emits [] ∧
    exec .start s = emits [.start 0#4] ∧
    exec .continue_ s = emits [.continue_ 0#4] ∧
    exec .stop s = emits [.stop 0#4] ∧
    exec .undefFD s = emits [] ∧
    exec .activeSense s = emits [.activeSensing 0#4] ∧
    exec .sysReset s = emits [.systemReset 0#4]

/-- The byte step of the machine, through decoder and row, is `M1.BYTE` as R162 writes it; it is total. -/
def Obligations.ByteStepIsM1Byte : Prop :=
  ∀ (s : State) (h : Nat) (pkt : List Byte) (p : Parser) (b : Byte),
    s.phase = .packet h pkt → s.parser? h = some p →
    exec (decode (.byte b)) s = .next (s.setParser h (some (m1Byte s.params b p)))

/-- `RS` after every byte (R24): set by a channel status byte unless its scope is `NONE`, cleared by a system-common byte, left alone by a
data byte and a real-time byte. -/
def Obligations.RunningStatusAfterEachByte : Prop :=
  ∀ (s : State) (h : Nat) (pkt : List Byte) (p : Parser) (b : Byte),
    s.phase = .packet h pkt → s.parser? h = some p → p.Wf s.params →
    ∃ q, exec (decode (.byte b)) s = .next (s.setParser h (some q)) ∧
      (b.toNat < 0x80 → q.rs = p.rs) ∧
      (0x80 ≤ b.toNat → b.toNat ≤ 0xEF → q.rs = if s.params.rsScope = .none then none else some b) ∧
      (0xF0 ≤ b.toNat → b.toNat ≤ 0xF7 → q.rs = none) ∧
      (0xF8 ≤ b.toNat → q.rs = p.rs)

/-- `M1.PACKET` from its issue to its outcome is R161: it takes every packet, never fails, and returns the Events of the bytes in order
(R161, R205). How many steps it takes is log 2. -/
def Obligations.PacketRunsItsBytes : Prop :=
  ∀ (s : State) (ports : Ports) (rest : List Request) (p : Parser),
    s.phase = .quiescent → s.requests = ⟨0x2#4, ports⟩ :: rest → s.parser? ports.inst = some p →
    let q := m1Packet s.params ports.bytes p
    runs (ports.bytes.length + 2) s =
      .next { s.setParser ports.inst (some q) with requests := rest, replies := s.replies ++ [.events q.out] }

/-- A SysEx may be split over any number of packets at any byte positions; its Event is in the result of the packet that carries the byte
that ends it (R204; the spec marks the place of the Event as derived). Here the byte that ends it is `0xF7`. -/
def Obligations.SysExAcrossPackets : Prop :=
  ∀ (params : Params) (p : Parser) (m : Mfr) (d : List U7) (packets : List (List Byte)) (last : List Byte),
    p.mode = .idle → m ≠ .oneByte 0#7 → last ≠ [] →
    packets.flatten ++ last = [0xF0#8] ++ (mfrBytes m ++ d).map (fun v => 0#1 ++ v) ++ [0xF7#8] →
    deliver params (packets ++ [last]) p = packets.map (fun _ => []) ++ [[.sysEx7 m d 0#4]]

/-! ### The operations on instances -/

/-- `M1.RESET` (R350): it creates an instance in the state the rule lists, or brings an existing one back to it. Which handle a new instance
gets is the model's choice (log 4); the statement says only that it named none before. -/
def Obligations.ResetMakesAFreshInstance : Prop :=
  ∀ (s : State) (noz : Option Bool), s.phase = .quiescent →
    let fresh : Parser :=
      { mode := .idle, sxbuf := [], rs := none, pend := none, out := [], cur := 0,
        noz := match noz with | some v => v | none => true }
    (∃ h t, exec (.m1Reset none noz) s = .next t ∧ s.parser? h = none ∧ t.parser? h = some fresh ∧
      (∀ k, k ≠ h → t.parser? k = s.parser? k) ∧
      t.params = s.params ∧ t.phase = s.phase ∧ t.requests = s.requests ∧ t.replies = s.replies ++ [.parser h]) ∧
    (∀ h p, s.parser? h = some p →
      exec (.m1Reset (some h) noz) s = .next ((s.setParser h (some fresh)).reply (.parser h)))

/-- The state after reset: one instance with the reset values (R34, R351), no operation in progress or issued, the spec's default parameters
(R6). That reset is the creation of one instance is log 3, its handle log 4. -/
def Obligations.ResetState : Prop :=
  State.reset.parser? 0 = some
    { mode := .idle, sxbuf := [], rs := none, noz := true, pend := none, cur := 0, out := [] } ∧
  (∀ h, h ≠ 0 → State.reset.parser? h = none) ∧
  State.reset.phase = .quiescent ∧ State.reset.requests = [] ∧ State.reset.replies = [] ∧
  State.reset.params = ⟨.packet, .exact⟩

/-- `CFG.WRITE` writes `CFG.NOZ` and nothing else (R206). -/
def Obligations.CfgWriteWritesNoz : Prop :=
  ∀ (s : State) (h : Nat) (p : Parser) (v : Bool),
    s.phase = .quiescent → s.parser? h = some p →
    exec (.cfgWrite h v) s = .next ((s.setParser h (some { p with noz := v })).reply .done)

/-- `M1.ABANDON` (R353): the instance ceases to exist, no event is produced, and no operation on an instance has a step afterwards. That the model
stops with `noSuchParser` is log 5. -/
def Obligations.AbandonEndsTheInstance : Prop :=
  ∀ (s : State) (h : Nat), s.phase = .quiescent →
    (∀ p, s.parser? h = some p →
      exec (.m1Abandon h) s = .next ((s.setParser h none).reply .done) ∧
      ((s.setParser h none).reply .done).parser? h = none) ∧
    (s.parser? h = none →
      (∀ noz, exec (.m1Reset (some h) noz) s = .fault .noSuchParser) ∧
      (∀ v, exec (.cfgWrite h v) s = .fault .noSuchParser) ∧
      (∀ bytes ts, exec (.m1Packet h bytes ts) s = .fault .noSuchParser) ∧
      exec (.m1Abandon h) s = .fault .noSuchParser)

/-- Overlapping operations have no step: an operation on an instance, or `M2.DECODE`, executed while another is in progress stops with
`operationInProgress`. On one instance this is R355's "a model does not give it one" (log 6). That `M2.DECODE`, and an operation on a different
or a new instance, stop too is the model's choice: R355 lets these overlap freely, and the model runs them one after another (log 16). -/
def Obligations.OperationsDoNotOverlap : Prop :=
  ∀ s : State, s.phase ≠ .quiescent →
    (∀ target noz, exec (.m1Reset target noz) s = .fault .operationInProgress) ∧
    (∀ h v, exec (.cfgWrite h v) s = .fault .operationInProgress) ∧
    (∀ h bytes ts, exec (.m1Packet h bytes ts) s = .fault .operationInProgress) ∧
    (∀ words ts protocol, exec (.m2Decode words ts protocol) s = .fault .operationInProgress) ∧
    (∀ h, exec (.m1Abandon h) s = .fault .operationInProgress)

/-- Instances are independent (R35): a step that is neither inside a packet of instance `k` nor the start of an operation on it does the same
whatever instance `k` holds, and leaves it as it is. -/
def Obligations.InstancesAreIndependent : Prop :=
  ∀ (s : State) (k : Nat) (p q : Parser),
    s.parser? k = some p → (∀ pkt, s.phase ≠ .packet k pkt) → ¬ (s.phase = .quiescent ∧ s.headNames k) →
    step (s.setParser k (some q)) = mapNext (fun t => t.setParser k (some q)) (step s) ∧
    ∀ t, step s = .next t → t.parser? k = some p

/-! ### The invariant -/

/-- The state after reset meets the invariant. -/
def Obligations.ResetMeetsInv : Prop := State.reset.Inv

/-- Every step keeps the invariant: `SXBUF` is empty in `Idle` (R22), `PEND` and `RS` are none while a SysEx is collected (R26, R187), `RS` is a
channel status or none (R24), `PEND` is an unfinished message and none between packets (R26), `CUR` stays in the packet (R27). -/
def Obligations.StepKeepsInv : Prop :=
  ∀ s t : State, s.Inv → step s = .next t → t.Inv

/-- Nothing is fatal (R331): from a state that meets the invariant a step faults only where an operation is issued for an instance that does
not exist (log 5). -/
def Obligations.FaultsOnlyWithoutAnInstance : Prop :=
  ∀ (s : State) (f : Fault), s.Inv → step s = .fault f →
    f = .noSuchParser ∧ s.phase = .quiescent ∧ ∃ h, s.headNames h ∧ s.parser? h = none

/-! ### Errors and refusals -/

/-- The complete list of refusals (R324, R267, R284): each is refused by its name, and nothing else is refused; message type `0x5` with
fewer than four words is skipped. -/
def Obligations.RefusalsAreTheFour : Prop :=
  ∀ s : State,
    (∀ g rest ws, s.phase = .group ws → 4 ≤ ws.length → exec (.d128 g rest) s = .refused .data128NotSpecified) ∧
    (∀ g rest ws, s.phase = .group ws → ws.length < 4 → exec (.d128 g rest) s = decoded s none) ∧
    (∀ e : Event, e.isMidi2 = true → exec (.packM1 e) s = .refused .noMidi1Form) ∧
    (∀ e : Event, e.isMidi2 = true → exec (.packUmp e .p1_0) s = .refused .noProtocol1Form) ∧
    exec .opReservedF s = .refused .reservedOperation ∧
    (∀ i r, exec i s = .refused r →
      (r = .data128NotSpecified ∧ ∃ g rest ws, i = .d128 g rest ∧ s.phase = .group ws ∧ 4 ≤ ws.length) ∨
      (r = .noMidi1Form ∧ ∃ e : Event, i = .packM1 e ∧ e.isMidi2 = true) ∨
      (r = .noProtocol1Form ∧ ∃ e : Event, i = .packUmp e .p1_0 ∧ e.isMidi2 = true) ∨
      (r = .reservedOperation ∧ i = .opReservedF))

/-- Which operation can raise which error (R325), and that raising writes no state but the outcome (R320). -/
def Obligations.ErrorsByOperation : Prop :=
  ∀ (i : Instr) (s t : State) (err : CodecError),
    exec i s = .next t → t.replies = s.replies ++ [.error err] →
    t = s.reply (.error err) ∧
    match err with
    | .malformedMessage _ => ∃ bytes group, i = .sx7FromBytes bytes group
    | .outOfRangeValue ty _ v =>
      (i = .bp32Enc .nan ∧ ty = .bipolar32 ∧ v = .nan) ∨
      (∃ x, i = .u4Check x ∧ ty = .uint4 ∧ v = .int x) ∨
      (∃ x, i = .u7Check x ∧ ty = .uint7 ∧ v = .int x) ∨
      (∃ r, i = .evMake r ∧ ∃ x, v = .int x)

/-! ### Range checks, construction, equality -/

/-- `U4.CHECK` and `U7.CHECK` (R100, R101): the integer itself in range, `OutOfRangeValue` outside it; never a clamped or masked value. -/
def Obligations.RangeChecks : Prop :=
  ∀ (s : State) (x : Int),
    (0 ≤ x → x ≤ 15 → ∃ v : U4, (v.toNat : Int) = x ∧ exec (.u4Check x) s = .next (s.reply (.uint4 v))) ∧
    (x < 0 ∨ 15 < x → exec (.u4Check x) s = .next (s.reply (.error (.outOfRangeValue .uint4 none (.int x))))) ∧
    (0 ≤ x → x ≤ 127 → ∃ v : U7, (v.toNat : Int) = x ∧ exec (.u7Check x) s = .next (s.reply (.uint7 v))) ∧
    (x < 0 ∨ 127 < x → exec (.u7Check x) s = .next (s.reply (.error (.outOfRangeValue .uint7 none (.int x)))))

/-- `EV.MAKE` (R145): when every field is in its range, the Event with exactly those fields, a group that is not given being 0; else the error
of the first field out of range, in the order of the rule. The field named for a manufacturer, data or a bank is
log 15; that its parts are checked first to last is the model's choice (log 21). -/
def Obligations.EvMakeChecksInOrder : Prop :=
  ∀ (s : State) (r : RawEvent),
    (∀ c ∈ checkedFields r, inRange c = true) ∧
      (∃ e, rawOf e = fillGroup r ∧ exec (.evMake r) s = .next (s.reply (.event e))) ∨
    ∃ pre ty f x post, checkedFields r = pre ++ (ty, f, x) :: post ∧ (∀ c ∈ pre, inRange c = true) ∧
      inRange (ty, f, x) = false ∧
      exec (.evMake r) s = .next (s.reply (.error (.outOfRangeValue ty (some f) (.int x))))

/-- `EV.EQ` (R146): 1 exactly where the variants and all fields, `group` included, are equal. -/
def Obligations.EvEqIsStructural : Prop :=
  ∀ (s : State) (a b : Event), ∃ v : Bool,
    exec (.evEq a b) s = .next (s.reply (.bit v)) ∧ (v = true ↔ a = b) ∧ (v = true ↔ rawOf a = rawOf b)

/-- `MFR.VALID` (R122). -/
def Obligations.ManufacturerValidity : Prop :=
  ∀ s : State,
    (∀ b : U7, ∃ v, exec (.mfrValid (.oneByte b)) s = .next (s.reply (.bit v)) ∧
      (v = true ↔ 0x01 ≤ b.toNat ∧ b.toNat ≤ 0x7D)) ∧
    (∀ b2 b3 : U7, ∃ v, exec (.mfrValid (.threeByte b2 b3)) s = .next (s.reply (.bit v)) ∧
      (v = true ↔ ¬ (b2 = 0#7 ∧ b3 = 0#7)))

/-! ### SysEx7 framing -/

/-- `SX7.FROMBYTES` step by step (R200): the cause of the first failing check, and the Event of an accepted frame. `body` is what lies between
`0xF0` and the end or the final `0xF7`. For a bad byte right before a final `0xF7` this follows the rule's pseudocode (log 20). -/
def Obligations.Sx7FromBytesByCases : Prop :=
  ∀ (s : State) (group : Option U4),
    let run (bytes : List Byte) (r : Reply) : Prop := exec (.sx7FromBytes bytes group) s = .next (s.reply r)
    let fails (bytes : List Byte) (c : Cause) : Prop := run bytes (.error (.malformedMessage c))
    let isDatum (b : Byte) : Prop := b.toNat < 0x80
    fails [] .empty ∧
    (∀ b rest, b ≠ 0xF0#8 → fails (b :: rest) .startMissing) ∧
    ∀ bytes body, (bytes = 0xF0#8 :: body ++ [0xF7#8] ∨ bytes = 0xF0#8 :: body ∧ body.getLast? ≠ some 0xF7#8) →
      (∀ pre post, body = pre ++ 0xF7#8 :: post → (∀ b ∈ pre, isDatum b) → fails bytes .endMisplaced) ∧
      (∀ pre b, body = pre ++ [b] → (∀ c ∈ pre, isDatum c) → ¬ isDatum b → b ≠ 0xF7#8 →
        fails bytes .terminatorIncorrect) ∧
      (∀ pre b post, body = pre ++ b :: post → (∀ c ∈ pre, isDatum c) → ¬ isDatum b → b ≠ 0xF7#8 → post ≠ [] →
        fails bytes .statusInPayload) ∧
      (body = [] → fails bytes .manufacturerAbsent) ∧
      (∀ d, body = 0x00#8 :: d → d.length < 2 → (∀ b ∈ d, isDatum b) → fails bytes .manufacturerAbsent) ∧
      (∀ (b : U7) (d : List U7), b ≠ 0#7 → body = (b :: d).map (fun v => 0#1 ++ v) →
        run bytes (.event (.sysEx7 (.oneByte b) d (group.getD 0#4)))) ∧
      (∀ (b2 b3 : U7) (d : List U7), body = (0#7 :: b2 :: b3 :: d).map (fun v => 0#1 ++ v) →
        run bytes (.event (.sysEx7 (.threeByte b2 b3) d (group.getD 0#4))))

/-- Canonical form (R201): packing the Event of an accepted buffer gives the buffer back, with a final `0xF7` added where it lacked one; and a
canonical form is accepted, with or without its terminator. -/
def Obligations.CanonicalForm : Prop :=
  ∀ (s : State) (g : U4),
    (∀ bytes e, exec (.sx7FromBytes bytes (some g)) s = .next (s.reply (.event e)) →
      exec (.packM1 e) s = .next (s.reply (.bytes
        (if bytes.getLast? = some 0xF7#8 then bytes else bytes ++ [0xF7#8])))) ∧
    (∀ m d, m ≠ .oneByte 0#7 →
      let frame : List Byte := [0xF0#8] ++ (mfrBytes m ++ d).map (fun v => 0#1 ++ v)
      exec (.packM1 (.sysEx7 m d g)) s = .next (s.reply (.bytes (frame ++ [0xF7#8]))) ∧
      exec (.sx7FromBytes (frame ++ [0xF7#8]) (some g)) s = .next (s.reply (.event (.sysEx7 m d g))) ∧
      exec (.sx7FromBytes frame (some g)) s = .next (s.reply (.event (.sysEx7 m d g))))

/-! ### The scaler -/

/-- `BP32.ENC` under `EXACT` (R111, R112, R113): the clamp, the two branches with `round(q) = floor(q + 1/2)`, and the error for `NaN`, which is the
same under both settings. -/
def Obligations.ScalerEncodes : Prop :=
  (clamp .negInf = some (-1) ∧ clamp .posInf = some 1 ∧
    ∀ q : Rat, (q < -1 → clamp (.finite q) = some (-1)) ∧ (1 < q → clamp (.finite q) = some 1) ∧
      (-1 ≤ q → q ≤ 1 → clamp (.finite q) = some q)) ∧
  ∀ s : State,
    exec (.bp32Enc .nan) s = .next (s.reply (.error (.outOfRangeValue .bipolar32 none .nan))) ∧
    (s.params.scalerArith = .exact → ∀ v c, clamp v = some c →
      ∃ w : U32, exec (.bp32Enc v) s = .next (s.reply (.raw w)) ∧
        (0 < c → (w.toNat : Int) = 0x80000000 + ⌊c * 0x7FFFFFFF + 1 / 2⌋) ∧
        (c ≤ 0 → (w.toNat : Int) = 0x80000000 - ⌊|c| * 0x80000000 + 1 / 2⌋))

/-- The boundary values the source fixes (R117), under both settings of `SCALER_ARITH`. -/
def Obligations.ScalerBoundaryValues : Prop :=
  ∀ s : State,
    exec (.bp32Enc (.finite (-1))) s = .next (s.reply (.raw 0x00000000#32)) ∧
    exec (.bp32Enc (.finite 0)) s = .next (s.reply (.raw 0x80000000#32)) ∧
    exec (.bp32Enc (.finite 1)) s = .next (s.reply (.raw 0xFFFFFFFF#32)) ∧
    exec (.bp32Dec 0x80000000#32) s = .next (s.reply (.value 0 ⟨false, 0⟩))

/-- `BP32.DEC` (R114): every word decodes, to the exact rational of its half; a binary64 port delivers `RN64` of it, `+0.0` for the midpoint. -/
def Obligations.ScalerDecodes : Prop :=
  ∀ (s : State) (raw : U32), ∃ (q : Rat) (port : Binary64),
    exec (.bp32Dec raw) s = .next (s.reply (.value q port)) ∧
    (0x80000000 < raw.toNat → q = ((raw.toNat : Rat) - 0x80000000) / 0x7FFFFFFF) ∧
    (raw.toNat ≤ 0x80000000 → q = -((0x80000000 - (raw.toNat : Rat)) / 0x80000000)) ∧
    port.magnitude = |rn64 q| ∧ (port.negative = true ↔ q < 0) ∧
    (raw = 0x80000000#32 → port = ⟨false, 0⟩)

/-- `RN64(q)` is a binary64 value, none is nearer, and where another is as near its significand is even (R12). The greatest exponent is left
aside (log 14). -/
def Obligations.Rn64IsNearest : Prop :=
  ∀ q : Rat, IsBinary64 (rn64 q) ∧ ∀ x : Rat, IsBinary64 x →
    |rn64 q - q| ≤ |x - q| ∧
    (x ≠ rn64 q → |x - q| = |rn64 q - q| → ∃ m e : Int, IsSignificand64 m e ∧ rn64 q = (m : Rat) * (2 : Rat) ^ e ∧ m % 2 = 0)

/-- The two settings of `SCALER_ARITH` (R115): `BINARY64` is the two branches on the rounded product; they agree on the whole lower branch, and
differ on `0.5 + 2 ^ -31`. -/
def Obligations.ScalerArithmetics : Prop :=
  ∀ s : State, s.params.scalerArith = .binary64 →
    (∀ v c, clamp v = some c → rn64 c = c →
      ∃ w : U32, exec (.bp32Enc v) s = .next (s.reply (.raw w)) ∧
        (0 < c → (w.toNat : Int) = 0x80000000 + ⌊rn64 (c * 0x7FFFFFFF) + 1 / 2⌋) ∧
        (c ≤ 0 → (w.toNat : Int) = 0x80000000 - ⌊rn64 (|c| * 0x80000000) + 1 / 2⌋) ∧
        (c ≤ 0 → bp32Encode .exact v = .ok w)) ∧
    exec (.bp32Enc (.finite (1 / 2 + 1 / 2147483648))) s = .next (s.reply (.raw 0xC0000001#32)) ∧
    bp32Encode .exact (.finite (1 / 2 + 1 / 2147483648)) = .ok 0xC0000000#32

/-- Round trip (R116): decoding an encoded value lands within one unit, half of that with exact products, of the clamped input; encoding
a decoded word gives the word. Under `BINARY64` the operand is a binary64 value. The spec marks the half bound and the second direction as
derived from its rules. -/
def Obligations.ScalerRoundTrip : Prop :=
  ∀ s : State,
    (∀ v c, clamp v = some c → (s.params.scalerArith = .binary64 → rn64 c = c) →
      ∃ w : U32, exec (.bp32Enc v) s = .next (s.reply (.raw w)) ∧
        |bp32Decode w - c| ≤ 1 / 0x7FFFFFFF ∧
        (s.params.scalerArith = .exact → |bp32Decode w - c| ≤ 1 / (2 * 0x7FFFFFFF))) ∧
    (∀ raw : U32,
      exec (.bp32Enc (.finite (rn64 (bp32Decode raw)))) s = .next (s.reply (.raw raw)) ∧
      (s.params.scalerArith = .exact →
        exec (.bp32Enc (.finite (bp32Decode raw))) s = .next (s.reply (.raw raw))))

/-- The scaler is monotonic, and decoding strictly increasing (R118, which the spec marks as derived). -/
def Obligations.ScalerMonotonic : Prop :=
  (∀ (s : State) (v1 v2 : Real64) (c1 c2 : Rat),
    clamp v1 = some c1 → clamp v2 = some c2 → c1 ≤ c2 →
    (s.params.scalerArith = .binary64 → rn64 c1 = c1 ∧ rn64 c2 = c2) →
    ∃ w1 w2 : U32, exec (.bp32Enc v1) s = .next (s.reply (.raw w1)) ∧ exec (.bp32Enc v2) s = .next (s.reply (.raw w2)) ∧
      w1.toNat ≤ w2.toNat) ∧
  (∀ r1 r2 : U32, r1.toNat < r2.toNat → bp32Decode r1 < bp32Decode r2)

/-! ### Unit M2D -/

/-- `M2.DECODE` begins: the words become the packet, the first is decoded next; an empty packet gives `none` (R221; log 2). -/
def Obligations.DecodeBegins : Prop :=
  ∀ (s : State) (words : List Word) (ts : BitVec 64) (protocol : Protocol), s.phase = .quiescent →
    (words ≠ [] → exec (.m2Decode words ts protocol) s = .next { s with phase := .group words }) ∧
    exec (.m2Decode [] ts protocol) s = .next (s.reply (.decoded none))

/-- The system messages of message type `0x1` (R226 to R235); `decoded` changes nothing but the outcome and the end of the operation. -/
def Obligations.UmpSystemMessages : Prop :=
  ∀ (s : State) (ws : List Word) (g : U4) (b2 b3 : Byte), s.phase = .group ws → ws ≠ [] →
    (∀ d : U7, exec (.umpMtcQf g (0#1 ++ d) b3) s = decoded s (some (.timecodeQuarterFrame d g))) ∧
    (0x80 ≤ b2.toNat → exec (.umpMtcQf g b2 b3) s = decoded s none) ∧
    (∀ l m : U7, exec (.umpSongPos g (0#1 ++ l) (0#1 ++ m)) s = decoded s (some (.songPositionPointer (m ++ l) g))) ∧
    (0x80 ≤ b2.toNat ∨ 0x80 ≤ b3.toNat → exec (.umpSongPos g b2 b3) s = decoded s none) ∧
    (∀ d : U7, exec (.umpSongSel g (0#1 ++ d) b3) s = decoded s (some (.songSelect d g))) ∧
    (0x80 ≤ b2.toNat → exec (.umpSongSel g b2 b3) s = decoded s none) ∧
    exec (.umpTuneReq g b2 b3) s = decoded s (some (.tuneRequest g)) ∧
    exec (.umpClock g b2 b3) s = decoded s (some (.timingClock g)) ∧
    exec (.umpStart g b2 b3) s = decoded s (some (.start g)) ∧
    exec (.umpContinue g b2 b3) s = decoded s (some (.continue_ g)) ∧
    exec (.umpStop g b2 b3) s = decoded s (some (.stop g)) ∧
    exec (.umpActiveSense g b2 b3) s = decoded s (some (.activeSensing g)) ∧
    exec (.umpSysReset g b2 b3) s = decoded s (some (.systemReset g))

/-- The channel voice messages of message type `0x2` (R238 to R244). -/
def Obligations.UmpMidi1Messages : Prop :=
  ∀ (s : State) (ws : List Word) (g ch : U4) (b2 b3 : Byte), s.phase = .group ws → ws ≠ [] →
    (∀ a b : U7,
      exec (.umpNoteOff g ch (0#1 ++ a) (0#1 ++ b)) s = decoded s (some (.noteOff a b ch g)) ∧
      exec (.umpNoteOn g ch (0#1 ++ a) (0#1 ++ b)) s = decoded s (some (.noteOn a b ch g)) ∧
      exec (.umpPolyPressure g ch (0#1 ++ a) (0#1 ++ b)) s = decoded s (some (.notePressure a b ch g)) ∧
      exec (.umpControlChange g ch (0#1 ++ a) (0#1 ++ b)) s = decoded s (some (.cc a b ch g)) ∧
      exec (.umpProgramChange g ch (0#1 ++ a) b3) s = decoded s (some (.programChange a ch g)) ∧
      exec (.umpChannelPressure g ch (0#1 ++ a) b3) s = decoded s (some (.pressure a ch g)) ∧
      exec (.umpPitchBend g ch (0#1 ++ a) (0#1 ++ b)) s = decoded s (some (.pitchBend (b ++ a) ch g))) ∧
    (0x80 ≤ b2.toNat ∨ 0x80 ≤ b3.toNat →
      exec (.umpNoteOff g ch b2 b3) s = decoded s none ∧
      exec (.umpNoteOn g ch b2 b3) s = decoded s none ∧
      exec (.umpPolyPressure g ch b2 b3) s = decoded s none ∧
      exec (.umpControlChange g ch b2 b3) s = decoded s none ∧
      exec (.umpPitchBend g ch b2 b3) s = decoded s none) ∧
    (0x80 ≤ b2.toNat →
      exec (.umpProgramChange g ch b2 b3) s = decoded s none ∧
      exec (.umpChannelPressure g ch b2 b3) s = decoded s none)

/-- The controller and per-note messages of message type `0x4`, statuses `0x0` to `0x6` (R251 to R257). -/
def Obligations.UmpMidi2Controllers : Prop :=
  ∀ (s : State) (w0 w1 : Word) (ws : List Word) (g ch : U4) (b2 b3 : Byte), s.phase = .group (w0 :: w1 :: ws) →
    (∀ a b : U7,
      exec (.m2RegPnCtrl g ch (0#1 ++ a) b3) s = decoded s (some (.m2RegisteredPerNoteController a b3 w1 ch g)) ∧
      exec (.m2AsgPnCtrl g ch (0#1 ++ a) b3) s = decoded s (some (.m2AssignablePerNoteController a b3 w1 ch g)) ∧
      exec (.m2RegCtrl g ch (0#1 ++ a) (0#1 ++ b)) s = decoded s (some (.m2RegisteredController a b w1 ch g)) ∧
      exec (.m2AsgCtrl g ch (0#1 ++ a) (0#1 ++ b)) s = decoded s (some (.m2AssignableController a b w1 ch g)) ∧
      exec (.m2RelRegCtrl g ch (0#1 ++ a) (0#1 ++ b)) s = decoded s (some (.m2RelativeRegisteredController a b w1 ch g)) ∧
      exec (.m2RelAsgCtrl g ch (0#1 ++ a) (0#1 ++ b)) s = decoded s (some (.m2RelativeAssignableController a b w1 ch g)) ∧
      exec (.m2PnPitchBend g ch (0#1 ++ a) b3) s = decoded s (some (.m2PerNotePitchBend a w1 ch g))) ∧
    (0x80 ≤ b2.toNat ∨ 0x80 ≤ b3.toNat →
      exec (.m2RegCtrl g ch b2 b3) s = decoded s none ∧
      exec (.m2AsgCtrl g ch b2 b3) s = decoded s none ∧
      exec (.m2RelRegCtrl g ch b2 b3) s = decoded s none ∧
      exec (.m2RelAsgCtrl g ch b2 b3) s = decoded s none) ∧
    (0x80 ≤ b2.toNat →
      exec (.m2RegPnCtrl g ch b2 b3) s = decoded s none ∧
      exec (.m2AsgPnCtrl g ch b2 b3) s = decoded s none ∧
      exec (.m2PnPitchBend g ch b2 b3) s = decoded s none)

/-- The note, control change and management messages of message type `0x4` (R259 to R262, R264 to R266). -/
def Obligations.UmpMidi2Notes : Prop :=
  ∀ (s : State) (w0 w1 : Word) (ws : List Word) (g ch : U4) (b2 b3 : Byte), s.phase = .group (w0 :: w1 :: ws) →
    (∀ (a : U7) (hi lo : U16), w1 = hi ++ lo →
      exec (.m2NoteOff g ch (0#1 ++ a) b3) s = decoded s (some (.m2NoteOff a hi b3 lo ch g)) ∧
      exec (.m2NoteOn g ch (0#1 ++ a) b3) s = decoded s (some (.m2NoteOn a hi b3 lo ch g))) ∧
    (∀ a : U7,
      exec (.m2PolyPressure g ch (0#1 ++ a) b3) s = decoded s (some (.m2NotePressure a w1 ch g)) ∧
      exec (.m2ControlChange g ch (0#1 ++ a) b3) s = decoded s (some (.m2CC a w1 ch g)) ∧
      exec (.m2PnManagement g ch (0#1 ++ a) b3) s =
        decoded s (some (.m2PerNoteManagement a (b3.getLsbD 1) (b3.getLsbD 0) ch g))) ∧
    exec (.m2ChannelPressure g ch b2 b3) s = decoded s (some (.m2Pressure w1 ch g)) ∧
    exec (.m2PitchBend g ch b2 b3) s = decoded s (some (.m2PitchBend w1 ch g)) ∧
    (0x80 ≤ b2.toNat →
      exec (.m2NoteOff g ch b2 b3) s = decoded s none ∧
      exec (.m2NoteOn g ch b2 b3) s = decoded s none ∧
      exec (.m2PolyPressure g ch b2 b3) s = decoded s none ∧
      exec (.m2ControlChange g ch b2 b3) s = decoded s none ∧
      exec (.m2PnManagement g ch b2 b3) s = decoded s none)

/-- The MIDI 2.0 program change (R263): the bank bytes are read only where the bank-valid flag `b3[0]` is 1. -/
def Obligations.UmpMidi2ProgramChange : Prop :=
  ∀ (s : State) (w0 w1 : Word) (ws : List Word) (g ch : U4) (b2 b3 x0 x1 x2 x3 : Byte),
    s.phase = .group (w0 :: w1 :: ws) → w1 = x0 ++ x1 ++ x2 ++ x3 →
    (∀ p m l : U7, x0 = 0#1 ++ p → x2 = 0#1 ++ m → x3 = 0#1 ++ l → b3.getLsbD 0 = true →
      exec (.m2ProgramChange g ch b2 b3) s = decoded s (some (.m2ProgramChange p (some (m, l)) ch g))) ∧
    (∀ p : U7, x0 = 0#1 ++ p → b3.getLsbD 0 = false →
      exec (.m2ProgramChange g ch b2 b3) s = decoded s (some (.m2ProgramChange p none ch g))) ∧
    (0x80 ≤ x0.toNat → exec (.m2ProgramChange g ch b2 b3) s = decoded s none) ∧
    (b3.getLsbD 0 = true → 0x80 ≤ x2.toNat ∨ 0x80 ≤ x3.toNat →
      exec (.m2ProgramChange g ch b2 b3) s = decoded s none)

/-- A complete SysEx7 group (R247): it gives what `SX7.FROMBYTES` gives for its first `nbytes` payload bytes between `0xF0` and `0xF7`, `none`
where that fails or `nbytes` exceeds 6. That this is the result of R247's pseudocode the spec marks as derived from R200. -/
def Obligations.UmpSysExComplete : Prop :=
  ∀ (s : State) (w0 : Word) (ws : List Word) (g n : U4) (x0 x1 x2 x3 x4 x5 : Byte),
    s.phase = .group (w0 :: (x2 ++ x3 ++ x4 ++ x5) :: ws) →
    let payload : List Byte := [x0, x1, x2, x3, x4, x5].take n.toNat
    (6 < n.toNat → exec (.sx7Complete g n x0 x1) s = decoded s none) ∧
    (n.toNat ≤ 6 → exec (.sx7Complete g n x0 x1) s = decoded s
      (match sx7FromBytes ([0xF0#8] ++ payload ++ [0xF7#8]) g with
        | .ok e => some e
        | .error _ => none)) ∧
    (∀ m d, n.toNat ≤ 6 → m ≠ .oneByte 0#7 → payload = (mfrBytes m ++ d).map (fun v => 0#1 ++ v) →
      exec (.sx7Complete g n x0 x1) s = decoded s (some (.sysEx7 m d g)))

/-- The skipped first words (R224, R236, R245, R248, R249, R258): no Event, whatever the rest of the packet. -/
def Obligations.UmpSkippedWords : Prop :=
  ∀ (s : State) (ws : List Word) (g ch : U4) (b2 b3 : Byte) (rest : BitVec 24), s.phase = .group ws →
    let skips (i : Instr) : Prop := exec i s = decoded s none
    (skips (.unrecMt0 g rest) ∧ skips (.unrecMt6 g rest) ∧ skips (.unrecMt7 g rest) ∧ skips (.unrecMt8 g rest) ∧
      skips (.unrecMt9 g rest) ∧ skips (.unrecMtA g rest) ∧ skips (.unrecMtB g rest) ∧ skips (.unrecMtC g rest) ∧
      skips (.unrecMtD g rest) ∧ skips (.unrecMtE g rest) ∧ skips (.unrecMtF g rest)) ∧
    ((∀ low, skips (.sys1Unrec00_7F g low b2 b3)) ∧ (∀ low, skips (.sys1Unrec80_BF g low b2 b3)) ∧
      (∀ low, skips (.sys1UnrecC0_DF g low b2 b3)) ∧ (∀ low, skips (.sys1UnrecE0_EF g low b2 b3)) ∧
      skips (.sys1UnrecF0 g b2 b3) ∧ skips (.sys1UnrecF4 g b2 b3) ∧ skips (.sys1UnrecF5 g b2 b3) ∧
      skips (.sys1UnrecF7 g b2 b3) ∧ skips (.sys1UnrecF9 g b2 b3) ∧ skips (.sys1UnrecFD g b2 b3)) ∧
    ((∀ st, skips (.cv1Unrec0_7 g st ch b2 b3)) ∧ skips (.cv1UnrecF g ch b2 b3)) ∧
    (∀ n, skips (.sx7Start g n b2 b3) ∧ skips (.sx7Continue g n b2 b3) ∧ skips (.sx7End g n b2 b3) ∧
      (∀ st, skips (.sx7Reserved4_7 g st n b2 b3)) ∧ (∀ st, skips (.sx7Reserved8_F g st n b2 b3))) ∧
    skips (.m2Reserved7 g ch b2 b3)

/-- Packet length (R222): a packet shorter than its message type needs gives `none`, so does one of 0 words; surplus words have no
effect. -/
def Obligations.UmpPacketLength : Prop :=
  (∀ (s : State) (ts : BitVec 64) (protocol : Protocol), s.phase = .quiescent →
    exec (.m2Decode [] ts protocol) s = .next (s.reply (.decoded none))) ∧
  ∀ (s : State) (ws : List Word) (w : Word) (n : Nat), s.phase = .group ws → nwords (wordMt w) = some n →
    (ws.length < n → exec (decode (.word w)) s = decoded s none) ∧
    (n ≤ ws.length → ∀ surplus,
      exec (decode (.word w)) { s with phase := .group (ws.take n ++ surplus) } = exec (decode (.word w)) s)

/-- `M2.DECODE` from its issue to its outcome is a function of the words alone: it reads no state, no timestamp and no protocol, and
ends in `none`, one Event, or the refusal (R269 to R271; that it is total, R268, the spec marks as derived). How many steps it takes is log 2. -/
def Obligations.DecodeIsAFunctionOfWords : Prop :=
  ∃ f : List Word → Option (Option Event), ∀ (s : State) (ports : Ports) (rest : List Request),
    s.phase = .quiescent → s.requests = ⟨0x4#4, ports⟩ :: rest →
    runs (if ports.words = [] then 1 else 2) s =
      match f ports.words with
      | some e => .next { s with requests := rest, replies := s.replies ++ [.decoded e] }
      | none => .refused .data128NotSpecified

/-! ### Unit VPK, the packers -/

/-- `PACK.M1` of the MIDI 1.0 variants (R281 to R283): status byte, then data bytes; the group is not encoded. -/
def Obligations.PackM1Bytes : Prop :=
  ∀ (s : State) (a b : U7) (v : U14) (ch g : U4) (m : Mfr) (d : List U7),
    let packs (e : Event) (bs : List Byte) : Prop := exec (.packM1 e) s = .next (s.reply (.bytes bs))
    packs (.noteOff a b ch g) [0x8#4 ++ ch, 0#1 ++ a, 0#1 ++ b] ∧
    packs (.noteOn a b ch g) [0x9#4 ++ ch, 0#1 ++ a, 0#1 ++ b] ∧
    packs (.notePressure a b ch g) [0xA#4 ++ ch, 0#1 ++ a, 0#1 ++ b] ∧
    packs (.cc a b ch g) [0xB#4 ++ ch, 0#1 ++ a, 0#1 ++ b] ∧
    packs (.programChange a ch g) [0xC#4 ++ ch, 0#1 ++ a] ∧
    packs (.pressure a ch g) [0xD#4 ++ ch, 0#1 ++ a] ∧
    packs (.pitchBend v ch g) [0xE#4 ++ ch, 0#1 ++ v.extractLsb' 0 7, 0#1 ++ v.extractLsb' 7 7] ∧
    packs (.timecodeQuarterFrame a g) [0xF1#8, 0#1 ++ a] ∧
    packs (.songPositionPointer v g) [0xF2#8, 0#1 ++ v.extractLsb' 0 7, 0#1 ++ v.extractLsb' 7 7] ∧
    packs (.songSelect a g) [0xF3#8, 0#1 ++ a] ∧
    packs (.tuneRequest g) [0xF6#8] ∧
    packs (.timingClock g) [0xF8#8] ∧
    packs (.start g) [0xFA#8] ∧
    packs (.continue_ g) [0xFB#8] ∧
    packs (.stop g) [0xFC#8] ∧
    packs (.activeSensing g) [0xFE#8] ∧
    packs (.systemReset g) [0xFF#8] ∧
    packs (.sysEx7 m d g) ([0xF0#8] ++ (mfrBytes m ++ d).map (fun v => 0#1 ++ v) ++ [0xF7#8])

/-- `PACK.UMP` of the MIDI 1.0 channel voice and system variants (R286, R287): one word, the same under both protocols. -/
def Obligations.PackUmpOneWord : Prop :=
  ∀ (s : State) (protocol : Protocol) (a b : U7) (v : U14) (ch g : U4),
    let packs (e : Event) (w : Word) : Prop := exec (.packUmp e protocol) s = .next (s.reply (.groups [[w]]))
    let channel (k : U4) (d0 d1 : Byte) : Word := 0x2#4 ++ g ++ k ++ ch ++ d0 ++ d1
    let system (st d0 d1 : Byte) : Word := 0x1#4 ++ g ++ st ++ d0 ++ d1
    let lsb : Byte := 0#1 ++ v.extractLsb' 0 7
    let msb : Byte := 0#1 ++ v.extractLsb' 7 7
    packs (.noteOff a b ch g) (channel 0x8#4 (0#1 ++ a) (0#1 ++ b)) ∧
    packs (.noteOn a b ch g) (channel 0x9#4 (0#1 ++ a) (0#1 ++ b)) ∧
    packs (.notePressure a b ch g) (channel 0xA#4 (0#1 ++ a) (0#1 ++ b)) ∧
    packs (.cc a b ch g) (channel 0xB#4 (0#1 ++ a) (0#1 ++ b)) ∧
    packs (.programChange a ch g) (channel 0xC#4 (0#1 ++ a) 0x00#8) ∧
    packs (.pressure a ch g) (channel 0xD#4 (0#1 ++ a) 0x00#8) ∧
    packs (.pitchBend v ch g) (channel 0xE#4 lsb msb) ∧
    packs (.timecodeQuarterFrame a g) (system 0xF1#8 (0#1 ++ a) 0x00#8) ∧
    packs (.songPositionPointer v g) (system 0xF2#8 lsb msb) ∧
    packs (.songSelect a g) (system 0xF3#8 (0#1 ++ a) 0x00#8) ∧
    packs (.tuneRequest g) (system 0xF6#8 0x00#8 0x00#8) ∧
    packs (.timingClock g) (system 0xF8#8 0x00#8 0x00#8) ∧
    packs (.start g) (system 0xFA#8 0x00#8 0x00#8) ∧
    packs (.continue_ g) (system 0xFB#8 0x00#8 0x00#8) ∧
    packs (.stop g) (system 0xFC#8 0x00#8 0x00#8) ∧
    packs (.activeSensing g) (system 0xFE#8 0x00#8 0x00#8) ∧
    packs (.systemReset g) (system 0xFF#8 0x00#8 0x00#8)

/-- `PACK.UMP` of a `sysEx7` (R288): one complete group for up to 6 payload bytes; else a start group, continue groups and an end group of 6
bytes each, the last of 1 to 6, padded with zeros. -/
def Obligations.PackUmpSysEx : Prop :=
  ∀ (s : State) (protocol : Protocol) (m : Mfr) (d : List U7) (g : U4),
    let byteAt (q : List U7) (k : Nat) : Byte := 0#1 ++ q.getD k 0#7
    let seg (status : U4) (q : List U7) : List Word :=
      [ 0x3#4 ++ g ++ status ++ BitVec.ofNat 4 q.length ++ byteAt q 0 ++ byteAt q 1,
        byteAt q 2 ++ byteAt q 3 ++ byteAt q 4 ++ byteAt q 5 ]
    let packs (gs : List (List Word)) : Prop := exec (.packUmp (.sysEx7 m d g) protocol) s = .next (s.reply (.groups gs))
    ((mfrBytes m ++ d).length ≤ 6 → packs [seg 0x0#4 (mfrBytes m ++ d)]) ∧
    (∀ (first last : List U7) (middle : List (List U7)),
      mfrBytes m ++ d = first ++ middle.flatten ++ last →
      first.length = 6 → (∀ c ∈ middle, c.length = 6) → 1 ≤ last.length → last.length ≤ 6 →
      packs ([seg 0x1#4 first] ++ middle.map (seg 0x2#4) ++ [seg 0x3#4 last]))

/-- `PACK.UMP` of the MIDI 2.0 variants (R289 to R291): one group of two words under `P2_0`, every reserved field 0; refused under `P1_0`. -/
def Obligations.PackUmpMidi2 : Prop :=
  ∀ (s : State) (a b c : U7) (x : U8) (value : U32) (vel attr : U16) (ch g : U4) (detach reset : Bool),
    let packs (e : Event) (status : U4) (b2 b3 : Byte) (w1 : Word) : Prop :=
      exec (.packUmp e .p2_0) s = .next (s.reply (.groups [[0x4#4 ++ g ++ status ++ ch ++ b2 ++ b3, w1]]))
    let bit (v : Bool) : BitVec 1 := if v then 1#1 else 0#1
    packs (.m2RegisteredPerNoteController a x value ch g) 0x0#4 (0#1 ++ a) x value ∧
    packs (.m2AssignablePerNoteController a x value ch g) 0x1#4 (0#1 ++ a) x value ∧
    packs (.m2RegisteredController a b value ch g) 0x2#4 (0#1 ++ a) (0#1 ++ b) value ∧
    packs (.m2AssignableController a b value ch g) 0x3#4 (0#1 ++ a) (0#1 ++ b) value ∧
    packs (.m2RelativeRegisteredController a b value ch g) 0x4#4 (0#1 ++ a) (0#1 ++ b) value ∧
    packs (.m2RelativeAssignableController a b value ch g) 0x5#4 (0#1 ++ a) (0#1 ++ b) value ∧
    packs (.m2PerNotePitchBend a value ch g) 0x6#4 (0#1 ++ a) 0x00#8 value ∧
    packs (.m2NoteOff a vel x attr ch g) 0x8#4 (0#1 ++ a) x (vel ++ attr) ∧
    packs (.m2NoteOn a vel x attr ch g) 0x9#4 (0#1 ++ a) x (vel ++ attr) ∧
    packs (.m2NotePressure a value ch g) 0xA#4 (0#1 ++ a) 0x00#8 value ∧
    packs (.m2CC a value ch g) 0xB#4 (0#1 ++ a) 0x00#8 value ∧
    packs (.m2ProgramChange a (some (b, c)) ch g) 0xC#4 0x00#8 0x01#8 (0#1 ++ a ++ 0x00#8 ++ (0#1 ++ b) ++ (0#1 ++ c)) ∧
    packs (.m2ProgramChange a none ch g) 0xC#4 0x00#8 0x00#8 (0#1 ++ a ++ 0x000000#24) ∧
    packs (.m2Pressure value ch g) 0xD#4 0x00#8 0x00#8 value ∧
    packs (.m2PitchBend value ch g) 0xE#4 0x00#8 0x00#8 value ∧
    packs (.m2PerNoteManagement a detach reset ch g) 0xF#4 (0#1 ++ a) (0#6 ++ bit detach ++ bit reset) 0x00000000#32 ∧
    ∀ e : Event, e.isMidi2 = true → exec (.packUmp e .p1_0) s = .refused .noProtocol1Form

/-! ### The round trips -/

/-- Round trip through bytes (R292): a fresh instance parses the bytes of a MIDI 1.0 or system or SysEx Event of group 0 back to that Event and
is again as after reset, but for `RS`; outside the law are a Note On of velocity 0 under `CFG.NOZ` and the manufacturer `oneByte(0x00)`. The spec marks the law as derived. -/
def Obligations.RoundTripThroughBytes : Prop :=
  ∀ (params : Params) (noz : Bool) (e : Event),
    e.isMidi2 = false → e.group = 0#4 →
    (∀ note ch g, e = .noteOn note 0#7 ch g → noz = false) → (∀ d g, e ≠ .sysEx7 (.oneByte 0#7) d g) →
    ∃ bytes rs cur, (∀ s, exec (.packM1 e) s = .next (s.reply (.bytes bytes))) ∧
      m1Packet params bytes (Parser.fresh noz) = { Parser.fresh noz with rs := rs, cur := cur, out := [e] }

/-- Round trip through words (R293): the group an Event packs to under `P2_0`, where it is one group, decodes to the Event; the spec marks the law as
derived. -/
def Obligations.RoundTripThroughWords : Prop :=
  (∀ (s t : State) (e : Event) (grp : List Word),
    exec (.packUmp e .p2_0) s = .next (s.reply (.groups [grp])) → (∀ d g, e ≠ .sysEx7 (.oneByte 0#7) d g) →
    t.phase = .group grp →
    ∃ w ws, grp = w :: ws ∧ step t = exec (decode (.word w)) t ∧ exec (decode (.word w)) t = decoded t (some e)) ∧
  (∀ (s : State) (e : Event), (∀ m d g, e = .sysEx7 m d g → (mfrBytes m ++ d).length ≤ 6) →
    ∃ grp, exec (.packUmp e .p2_0) s = .next (s.reply (.groups [grp])))
end

