-- ==== Sys2Proof/Laws/Operands.lean ====
section
/-! SUPPORT. The packer primitives and their inverses (R105 to R108), and the fields of a packed word. -/

namespace Sys2Proof.Machine

/-! ### Concatenation -/

theorem append_toNat {a b : Nat} (x : BitVec a) (y : BitVec b) : (x ++ y).toNat = x.toNat * 2 ^ b + y.toNat := by
  rw [BitVec.toNat_append, ← Nat.shiftLeft_add_eq_or_of_lt y.isLt, Nat.shiftLeft_eq]

/-! ### `PK.NIB` -/

/-- R105: `(hi << 4) | lo` as a number. -/
theorem pkNib_toNat (hi lo : U4) : (pkNib hi lo).toNat = hi.toNat * 16 + lo.toNat := by
  have h := lo.isLt
  rw [pkNib, BitVec.toNat_append, ← Nat.shiftLeft_add_eq_or_of_lt h, Nat.shiftLeft_eq]

@[simp] theorem hiNib_pkNib (hi lo : U4) : hiNib (pkNib hi lo) = hi := by
  apply BitVec.eq_of_toNat_eq
  have h1 := hi.isLt
  have h2 := lo.isLt
  simp [hiNib, pkNib_toNat, Nat.shiftRight_eq_div_pow]; omega

@[simp] theorem loNib_pkNib (hi lo : U4) : loNib (pkNib hi lo) = lo := by
  apply BitVec.eq_of_toNat_eq
  have h1 := hi.isLt
  have h2 := lo.isLt
  simp [loNib, pkNib_toNat]; omega

@[simp] theorem pkNib_hiNib_loNib (b : Byte) : pkNib (hiNib b) (loNib b) = b := by
  apply BitVec.eq_of_toNat_eq
  have h := b.isLt
  simp [hiNib, loNib, pkNib_toNat, Nat.shiftRight_eq_div_pow]; omega

/-! ### `PK.U14` -/

/-- R106: `(msb << 7) | lsb` as a number. -/
theorem pkU14_toNat (m l : U7) : (pkU14 m l).toNat = m.toNat * 128 + l.toNat := by
  have h := l.isLt
  rw [pkU14, BitVec.toNat_append, ← Nat.shiftLeft_add_eq_or_of_lt h, Nat.shiftLeft_eq]

@[simp] theorem msb14_pkU14 (m l : U7) : msb14 (pkU14 m l) = m := by
  apply BitVec.eq_of_toNat_eq
  have h1 := m.isLt
  have h2 := l.isLt
  simp [msb14, pkU14_toNat, Nat.shiftRight_eq_div_pow]; omega

@[simp] theorem lsb14_pkU14 (m l : U7) : lsb14 (pkU14 m l) = l := by
  apply BitVec.eq_of_toNat_eq
  have h1 := m.isLt
  have h2 := l.isLt
  simp [lsb14, pkU14_toNat]; omega

@[simp] theorem pkU14_msb14_lsb14 (v : U14) : pkU14 (msb14 v) (lsb14 v) = v := by
  apply BitVec.eq_of_toNat_eq
  have h := v.isLt
  simp [msb14, lsb14, pkU14_toNat, Nat.shiftRight_eq_div_pow]; omega

/-! ### `PK.HALF` -/

theorem pkHalf_toNat (h l : U16) : (pkHalf h l).toNat = h.toNat * 65536 + l.toNat := by
  have hl := l.isLt
  rw [pkHalf, BitVec.toNat_append, ← Nat.shiftLeft_add_eq_or_of_lt hl, Nat.shiftLeft_eq]

@[simp] theorem hiHalf_pkHalf (h l : U16) : hiHalf (pkHalf h l) = h := by
  apply BitVec.eq_of_toNat_eq
  have h1 := h.isLt
  have h2 := l.isLt
  simp [hiHalf, pkHalf_toNat, Nat.shiftRight_eq_div_pow]; omega

@[simp] theorem loHalf_pkHalf (h l : U16) : loHalf (pkHalf h l) = l := by
  apply BitVec.eq_of_toNat_eq
  have h1 := h.isLt
  have h2 := l.isLt
  simp [loHalf, pkHalf_toNat]; omega

@[simp] theorem pkHalf_hiHalf_loHalf (w : Word) : pkHalf (hiHalf w) (loHalf w) = w := by
  apply BitVec.eq_of_toNat_eq
  have h := w.isLt
  simp [hiHalf, loHalf, pkHalf_toNat, Nat.shiftRight_eq_div_pow]; omega

/-! ### `PK.WORD` -/

/-- R107: the four bytes as a number, the first the top byte. -/
theorem pkWord_toNat (b0 b1 b2 b3 : Byte) :
    (pkWord b0 b1 b2 b3).toNat = ((b0.toNat * 256 + b1.toNat) * 256 + b2.toNat) * 256 + b3.toNat := by
  have h1 := b1.isLt
  have h2 := b2.isLt
  have h3 := b3.isLt
  rw [pkWord, BitVec.toNat_append, BitVec.toNat_append, BitVec.toNat_append, ← Nat.shiftLeft_add_eq_or_of_lt h1,
    ← Nat.shiftLeft_add_eq_or_of_lt h2, ← Nat.shiftLeft_add_eq_or_of_lt h3]
  simp [Nat.shiftLeft_eq]

@[simp] theorem wordByte0_pkWord (b0 b1 b2 b3 : Byte) : wordByte0 (pkWord b0 b1 b2 b3) = b0 := by
  apply BitVec.eq_of_toNat_eq
  have h0 := b0.isLt
  have h1 := b1.isLt
  have h2 := b2.isLt
  have h3 := b3.isLt
  simp [wordByte0, pkWord_toNat, Nat.shiftRight_eq_div_pow]; omega

@[simp] theorem wordByte1_pkWord (b0 b1 b2 b3 : Byte) : wordByte1 (pkWord b0 b1 b2 b3) = b1 := by
  apply BitVec.eq_of_toNat_eq
  have h0 := b0.isLt
  have h1 := b1.isLt
  have h2 := b2.isLt
  have h3 := b3.isLt
  simp [wordByte1, pkWord_toNat, Nat.shiftRight_eq_div_pow]; omega

@[simp] theorem wordByte2_pkWord (b0 b1 b2 b3 : Byte) : wordByte2 (pkWord b0 b1 b2 b3) = b2 := by
  apply BitVec.eq_of_toNat_eq
  have h0 := b0.isLt
  have h1 := b1.isLt
  have h2 := b2.isLt
  have h3 := b3.isLt
  simp [wordByte2, pkWord_toNat, Nat.shiftRight_eq_div_pow]; omega

@[simp] theorem wordByte3_pkWord (b0 b1 b2 b3 : Byte) : wordByte3 (pkWord b0 b1 b2 b3) = b3 := by
  apply BitVec.eq_of_toNat_eq
  have h3 := b3.isLt
  simp [wordByte3, pkWord_toNat]; omega

@[simp] theorem pkWord_wordBytes (w : Word) : pkWord (wordByte0 w) (wordByte1 w) (wordByte2 w) (wordByte3 w) = w := by
  apply BitVec.eq_of_toNat_eq
  have h := w.isLt
  simp [wordByte0, wordByte1, wordByte2, wordByte3, pkWord_toNat, Nat.shiftRight_eq_div_pow]; omega

/-- A first word field by field. -/
theorem pkWord_pkNib_pkNib (mt g k ch : U4) (b2 b3 : Byte) :
    pkWord (pkNib mt g) (pkNib k ch) b2 b3 = (mt ++ g ++ k ++ ch ++ b2 ++ b3 : Word) := by
  apply BitVec.eq_of_toNat_eq
  rw [pkWord_toNat, pkNib_toNat, pkNib_toNat]
  simp only [append_toNat]; omega

/-! ### The fields of a first word -/

@[simp] theorem wordMt_pkWord (mt g : U4) (b1 b2 b3 : Byte) : wordMt (pkWord (pkNib mt g) b1 b2 b3) = mt := by
  simp [wordMt]

@[simp] theorem wordGroup_pkWord (mt g : U4) (b1 b2 b3 : Byte) : wordGroup (pkWord (pkNib mt g) b1 b2 b3) = g := by
  simp [wordGroup]

theorem pkTop_toNat (mt g : U4) (rest : BitVec 24) :
    (pkTop mt g rest).toNat = (mt.toNat * 16 + g.toNat) * 16777216 + rest.toNat := by
  have h := rest.isLt
  rw [pkTop, BitVec.toNat_append, ← Nat.shiftLeft_add_eq_or_of_lt h, Nat.shiftLeft_eq, pkNib_toNat]

theorem wordByte0_pkTop (mt g : U4) (rest : BitVec 24) : wordByte0 (pkTop mt g rest) = pkNib mt g := by
  apply BitVec.eq_of_toNat_eq
  have h1 := mt.isLt
  have h2 := g.isLt
  have h3 := rest.isLt
  simp [wordByte0, pkTop_toNat, pkNib_toNat, Nat.shiftRight_eq_div_pow]; omega

@[simp] theorem wordMt_pkTop (mt g : U4) (rest : BitVec 24) : wordMt (pkTop mt g rest) = mt := by
  simp [wordMt, wordByte0_pkTop]

@[simp] theorem wordGroup_pkTop (mt g : U4) (rest : BitVec 24) : wordGroup (pkTop mt g rest) = g := by
  simp [wordGroup, wordByte0_pkTop]

@[simp] theorem wordRest_pkTop (mt g : U4) (rest : BitVec 24) : wordRest (pkTop mt g rest) = rest := by
  apply BitVec.eq_of_toNat_eq
  have h3 := rest.isLt
  simp [wordRest, pkTop_toNat]; omega

@[simp] theorem pkTop_fields (w : Word) : pkTop (wordMt w) (wordGroup w) (wordRest w) = w := by
  apply BitVec.eq_of_toNat_eq
  have h := w.isLt
  simp [wordMt, wordGroup, wordRest, hiNib, loNib, wordByte0, pkTop_toNat, Nat.shiftRight_eq_div_pow]; omega

/-! ### 7-bit fields -/

@[simp] theorem byteOf7_toNat (v : U7) : (byteOf7 v).toNat = v.toNat := by
  have h := v.isLt
  rw [byteOf7, BitVec.toNat_append, ← Nat.shiftLeft_add_eq_or_of_lt h]
  simp

@[simp] theorem low7_byteOf7 (v : U7) : low7 (byteOf7 v) = v := by
  apply BitVec.eq_of_toNat_eq
  have h := v.isLt
  simp only [low7, BitVec.extractLsb'_toNat, byteOf7_toNat]
  simp; omega

@[simp] theorem isData_byteOf7 (v : U7) : isData (byteOf7 v) = true := by
  have h := v.isLt
  simp [isData]; omega

theorem byteOf7_low7 {b : Byte} (h : isData b = true) : byteOf7 (low7 b) = b := by
  apply BitVec.eq_of_toNat_eq
  have hb : b.toNat < 128 := by simpa [isData] using h
  simp [low7]; omega

/-- `U7.FROMBYTE` gives back a 7-bit field (R103). -/
@[simp] theorem u7FromByte_byteOf7 (v : U7) : u7FromByte (byteOf7 v) = some v := by simp [u7FromByte]

/-- `U7.FROMBYTE` succeeds on exactly the byte that carries the field; it never masks (R103). -/
theorem u7FromByte_eq_some {b : Byte} {v : U7} : u7FromByte b = some v ↔ b = byteOf7 v := by
  constructor
  · intro h
    by_cases hd : isData b = true
    · have : low7 b = v := by simpa [u7FromByte, hd] using h
      rw [← this, byteOf7_low7 hd]
    · simp [u7FromByte, hd] at h
  · rintro rfl
    simp

end Sys2Proof.Machine
end

