-- ==== Sys2Proof/Laws/State.lean ====
section
/-! SUPPORT. One lemma per field per update of the state, and the laws of reading and writing an instance. -/

namespace Sys2Proof.Machine

/-! ### `reply`, `finish`, `setParser` on each field -/

@[simp] theorem reply_params (s : State) (r : Reply) : (s.reply r).params = s.params := rfl
@[simp] theorem reply_parsers (s : State) (r : Reply) : (s.reply r).parsers = s.parsers := rfl
@[simp] theorem reply_phase (s : State) (r : Reply) : (s.reply r).phase = s.phase := rfl
@[simp] theorem reply_requests (s : State) (r : Reply) : (s.reply r).requests = s.requests := rfl
@[simp] theorem reply_replies (s : State) (r : Reply) : (s.reply r).replies = s.replies ++ [r] := rfl
@[simp] theorem reply_parser? (s : State) (r : Reply) (h : Nat) : (s.reply r).parser? h = s.parser? h := rfl

@[simp] theorem finish_params (s : State) : s.finish.params = s.params := rfl
@[simp] theorem finish_parsers (s : State) : s.finish.parsers = s.parsers := rfl
@[simp] theorem finish_phase (s : State) : s.finish.phase = .quiescent := rfl
@[simp] theorem finish_requests (s : State) : s.finish.requests = s.requests := rfl
@[simp] theorem finish_replies (s : State) : s.finish.replies = s.replies := rfl
@[simp] theorem finish_parser? (s : State) (h : Nat) : s.finish.parser? h = s.parser? h := rfl

@[simp] theorem setParser_params (s : State) (h : Nat) (p : Option Parser) : (s.setParser h p).params = s.params := rfl
@[simp] theorem setParser_phase (s : State) (h : Nat) (p : Option Parser) : (s.setParser h p).phase = s.phase := rfl
@[simp] theorem setParser_requests (s : State) (h : Nat) (p : Option Parser) : (s.setParser h p).requests = s.requests := rfl
@[simp] theorem setParser_replies (s : State) (h : Nat) (p : Option Parser) : (s.setParser h p).replies = s.replies := rfl
@[simp] theorem setParser_parsers (s : State) (h : Nat) (p : Option Parser) :
    (s.setParser h p).parsers = s.parsers.set h p := rfl

/-! ### Reading an instance after a write -/

/-- An instance that exists stands at a place of the list. -/
theorem parser?_eq_some {s : State} {h : Nat} {p : Parser} : s.parser? h = some p ↔ s.parsers[h]? = some (some p) := by
  simp [State.parser?, Option.join_eq_some_iff]

theorem lt_of_parser? {s : State} {h : Nat} {p : Parser} (hp : s.parser? h = some p) : h < s.parsers.length := by
  rw [parser?_eq_some] at hp
  exact (List.getElem?_eq_some_iff.mp hp).1

/-- Reading the instance just written. -/
theorem parser?_setParser_self {s : State} {h : Nat} {p : Parser} (q : Option Parser) (hp : s.parser? h = some p) :
    (s.setParser h q).parser? h = q := by
  simp [State.parser?, State.setParser, lt_of_parser? hp]

/-- A write leaves every other instance alone (R35). -/
theorem parser?_setParser_ne (s : State) {h k : Nat} (q : Option Parser) (hk : k ≠ h) :
    (s.setParser h q).parser? k = s.parser? k := by
  simp [State.parser?, State.setParser, Ne.symm hk]

/-- The second of two writes to one instance wins. -/
@[simp] theorem setParser_setParser (s : State) (h : Nat) (p q : Option Parser) :
    (s.setParser h p).setParser h q = s.setParser h q := by
  simp [State.setParser]

/-- Writing what is there changes nothing. -/
theorem setParser_self {s : State} {h : Nat} {p : Parser} (hp : s.parser? h = some p) : s.setParser h (some p) = s := by
  rw [parser?_eq_some] at hp
  obtain ⟨hl, he⟩ := List.getElem?_eq_some_iff.mp hp
  have : s.parsers.set h (some p) = s.parsers := by rw [← he]; exact List.set_getElem_self hl
  simp [State.setParser, this]

end Sys2Proof.Machine
end

