-- ==== Sys2Proof/Laws/Ops.lean ====
section
/-! SUPPORT. For each shared operation, once, everything it can do; and everything a step can do. -/

namespace Sys2Proof.Machine

/-! ### Instances and the quiescent block -/

theorem withParser_some {s : State} {h : Nat} {p : Parser} (hp : s.parser? h = some p) (k : Parser → Result) :
    withParser s h k = k p := by simp [withParser, hp]

theorem withParser_none {s : State} {h : Nat} (hp : s.parser? h = none) (k : Parser → Result) :
    withParser s h k = .fault .noSuchParser := by simp [withParser, hp]

/-- `withParser` answers next only on an instance that exists. -/
theorem withParser_next {s t : State} {h : Nat} {k : Parser → Result} (e : withParser s h k = .next t) :
    ∃ p, s.parser? h = some p ∧ k p = .next t := by
  cases hp : s.parser? h with
  | none => simp [withParser_none hp] at e
  | some p => exact ⟨p, rfl, by simpa [withParser_some hp] using e⟩

theorem whenQuiescent_quiescent {s : State} (hs : s.phase = .quiescent) (k : Result) : whenQuiescent s k = k := by
  simp [whenQuiescent, hs]

theorem whenQuiescent_busy {s : State} (hs : s.phase ≠ .quiescent) (k : Result) :
    whenQuiescent s k = .fault .operationInProgress := by
  cases hp : s.phase <;> simp_all [whenQuiescent]

/-- `whenQuiescent` answers next only between operations. -/
theorem whenQuiescent_next {s t : State} {k : Result} (e : whenQuiescent s k = .next t) :
    s.phase = .quiescent ∧ k = .next t := by
  by_cases hs : s.phase = .quiescent
  · exact ⟨hs, by simpa [whenQuiescent_quiescent hs] using e⟩
  · simp [whenQuiescent_busy hs] at e

/-! ### Outcomes -/

theorem returnOrRaise_ok {α : Type} (s : State) (f : α → Reply) (a : α) :
    returnOrRaise s f (.ok a) = .next (s.reply (f a)) := rfl

theorem returnOrRaise_error {α : Type} (s : State) (f : α → Reply) (e : CodecError) :
    returnOrRaise s f (.error e) = .next (s.reply (.error e)) := rfl

/-- An operation that returns or raises appends one outcome and does nothing else (R320). -/
theorem returnOrRaise_next {α : Type} {s t : State} {f : α → Reply} {x : Except CodecError α}
    (e : returnOrRaise s f x = .next t) : ∃ r, t = s.reply r := by
  cases x with
  | ok a => exact ⟨f a, by simpa [returnOrRaise_ok, eq_comm] using e⟩
  | error c => exact ⟨.error c, by simpa [returnOrRaise_error, eq_comm] using e⟩

theorem returnOrRefuse_ok {α : Type} (s : State) (f : α → Reply) (a : α) :
    returnOrRefuse s f (.ok a) = .next (s.reply (f a)) := rfl

theorem returnOrRefuse_error {α : Type} (s : State) (f : α → Reply) (r : Refusal) :
    returnOrRefuse s f (.error r) = .refused r := rfl

/-! ### The byte row -/

/-- A byte row of an open packet writes the packet's instance and nothing else. -/
theorem byteRow_packet {s : State} {h : Nat} {pkt : List Byte} {p : Parser} (hs : s.phase = .packet h pkt)
    (hp : s.parser? h = some p) (f : Params → Parser → Parser) :
    byteRow s f = .next (s.setParser h (some (advance (f s.params p)))) := by
  simp [byteRow, hs, withParser_some hp]

/-- A byte row answers next only in an open packet. -/
theorem byteRow_next {s t : State} {f : Params → Parser → Parser} (e : byteRow s f = .next t) :
    ∃ h pkt p, s.phase = .packet h pkt ∧ s.parser? h = some p ∧
      t = s.setParser h (some (advance (f s.params p))) := by
  cases hs : s.phase with
  | quiescent => simp [byteRow, hs] at e
  | group ws => simp [byteRow, hs] at e
  | packet h pkt =>
    simp only [byteRow, hs] at e
    obtain ⟨p, hp, e⟩ := withParser_next e
    exact ⟨h, pkt, p, rfl, hp, by simpa [eq_comm] using e⟩

/-! ### The word-group row -/

theorem umpRow_group {s : State} {ws : List Word} (hs : s.phase = .group ws) (n : Nat) (read : List Word → UmpResult) :
    umpRow s n read = finishDecode s (if ws.length < n then .skip .shortGroup else read ws) := by
  simp [umpRow, hs]

@[simp] theorem finishDecode_event (s : State) (e : Event) :
    finishDecode s (.event e) = .next (s.finish.reply (.decoded (some e))) := rfl

@[simp] theorem finishDecode_skip (s : State) (r : SkipReason) :
    finishDecode s (.skip r) = .next (s.finish.reply (.decoded none)) := rfl

@[simp] theorem finishDecode_refused (s : State) (r : Refusal) : finishDecode s (.refused r) = .refused r := rfl

/-- A word-group row answers next only in an open group, and then writes nothing but the outcome. -/
theorem umpRow_next {s t : State} {n : Nat} {read : List Word → UmpResult} (e : umpRow s n read = .next t) :
    ∃ ws r, s.phase = .group ws ∧ t = s.finish.reply (.decoded r) := by
  cases hs : s.phase with
  | quiescent => simp [umpRow, hs] at e
  | packet h pkt => simp [umpRow, hs] at e
  | group ws =>
    rw [umpRow_group hs] at e
    refine ⟨ws, ?_⟩
    split at e
    · exact ⟨none, rfl, by simpa [eq_comm] using e⟩
    · cases hr : read ws with
      | event ev => exact ⟨some ev, rfl, by simpa [hr, eq_comm] using e⟩
      | skip r => exact ⟨none, rfl, by simpa [hr, eq_comm] using e⟩
      | refused r => simp [hr] at e

@[simp] theorem field7_byteOf7 (v : U7) (k : U7 → UmpResult) : field7 (byteOf7 v) k = k v := by simp [field7]

theorem field7_high {x : Byte} (hx : 0x80 ≤ x.toNat) (k : U7 → UmpResult) : field7 x k = .skip .fieldOutOfRange := by
  have : isData x = false := by simp [isData]; omega
  simp [field7, u7FromByte, this]

/-! ### The step -/

theorem step_operation {s : State} {r : Request} {rest : List Request} (hs : s.phase = .quiescent)
    (hr : s.requests = r :: rest) : step s = exec (decode (.op r)) { s with requests := rest } := by
  simp [step, fetch, hs, hr]

theorem step_wait {s : State} (hs : s.phase = .quiescent) (hr : s.requests = []) : step s = .next s := by
  simp [step, fetch, hs, hr]

theorem step_byte {s : State} {h : Nat} {pkt : List Byte} {p : Parser} {b : Byte} (hs : s.phase = .packet h pkt)
    (hp : s.parser? h = some p) (hb : pkt[p.cur]? = some b) : step s = exec (decode (.byte b)) s := by
  simp [step, fetch, hs, hp, hb]

theorem step_packetEnd {s : State} {h : Nat} {pkt : List Byte} {p : Parser} (hs : s.phase = .packet h pkt)
    (hp : s.parser? h = some p) (hb : pkt.length ≤ p.cur) :
    step s = .next (((s.setParser h (some (endPacket p))).finish).reply (.events p.out)) := by
  simp [step, fetch, hs, hp, hb, finishPacket, withParser_some hp]

theorem step_word {s : State} {w : Word} {ws : List Word} (hs : s.phase = .group (w :: ws)) :
    step s = exec (decode (.word w)) s := by
  simp [step, fetch, hs]

/-- Everything a step that answers next can do: wait, begin an operation, run a byte row, end a packet, or run a word row. -/
theorem step_next {s t : State} (e : step s = .next t) :
    (s.phase = .quiescent ∧ s.requests = [] ∧ t = s) ∨
    (∃ r rest, s.phase = .quiescent ∧ s.requests = r :: rest ∧
      exec (decode (.op r)) { s with requests := rest } = .next t) ∨
    (∃ h pkt p b, s.phase = .packet h pkt ∧ s.parser? h = some p ∧ pkt[p.cur]? = some b ∧
      exec (decode (.byte b)) s = .next t) ∨
    (∃ h pkt p, s.phase = .packet h pkt ∧ s.parser? h = some p ∧ pkt.length ≤ p.cur ∧
      t = ((s.setParser h (some (endPacket p))).finish).reply (.events p.out)) ∨
    (∃ w ws, s.phase = .group (w :: ws) ∧ exec (decode (.word w)) s = .next t) := by
  obtain ⟨ph, hs⟩ : ∃ ph, s.phase = ph := ⟨_, rfl⟩
  cases ph with
  | quiescent =>
    cases hr : s.requests with
    | nil => exact .inl ⟨hs, rfl, by simpa [step_wait hs hr, eq_comm] using e⟩
    | cons r rest => exact .inr (.inl ⟨r, rest, hs, rfl, by rwa [step_operation hs hr] at e⟩)
  | packet h pkt =>
    cases hp : s.parser? h with
    | none => simp [step, fetch, hs, hp] at e
    | some p =>
      cases hb : pkt[p.cur]? with
      | some b => exact .inr (.inr (.inl ⟨h, pkt, p, b, hs, hp, hb, by rwa [step_byte hs hp hb] at e⟩))
      | none =>
        have hl : pkt.length ≤ p.cur := by simpa using hb
        refine .inr (.inr (.inr (.inl ⟨h, pkt, p, hs, hp, hl, ?_⟩)))
        simpa [step_packetEnd hs hp hl, eq_comm] using e
  | group ws =>
    cases ws with
    | nil => simp [step, fetch, hs] at e
    | cons w ws => exact .inr (.inr (.inr (.inr ⟨w, ws, hs, by rwa [step_word hs] at e⟩)))

end Sys2Proof.Machine
end

