-- ==== Sys2Proof/Laws/Exec.lean ====
section
/-! SUPPORT. The three shapes of an instruction's meaning: a byte row, a word-group row, an operation. -/

namespace Sys2Proof
/-- A row of format `OP`. -/
def Instr.isOperation : Instr → Bool
  | .m1Reset _ _ | .cfgWrite _ _ | .m1Packet _ _ _ | .sx7FromBytes _ _ | .m2Decode _ _ _ | .packM1 _ | .packUmp _ _ | .bp32Enc _
  | .bp32Dec _ | .u4Check _ | .u7Check _ | .mfrValid _ | .evMake _ | .evEq _ _ | .m1Abandon _ | .opReservedF => true
  | _ => false

namespace Machine

theorem field7_eq (x : Byte) (k : U7 → UmpResult) :
    field7 x k = .skip .fieldOutOfRange ∨ ∃ v, field7 x k = k v := by
  cases h : u7FromByte x with
  | none => exact .inl (by simp [field7, h])
  | some v => exact .inr ⟨v, by simp [field7, h]⟩

theorem field7_ne_refused {x : Byte} {k : U7 → UmpResult} {r : Refusal} (hk : ∀ v, k v ≠ .refused r) :
    field7 x k ≠ .refused r := by
  rcases field7_eq x k with h | ⟨v, h⟩ <;> rw [h]
  · simp
  · exact hk v

theorem sx7CompleteResult_ne_refused (g n : U4) (b2 b3 : Byte) (w : Word) (r : Refusal) :
    sx7CompleteResult g n b2 b3 w ≠ .refused r := by
  unfold sx7CompleteResult
  split
  · simp
  · split
    · simp
    · split <;> simp

theorem m2ProgramChangeResult_ne_refused (g ch : U4) (b3 : Byte) (w : Word) (r : Refusal) :
    m2ProgramChangeResult g ch b3 w ≠ .refused r := by
  unfold m2ProgramChangeResult
  refine field7_ne_refused fun v => ?_
  split
  · exact field7_ne_refused fun m => field7_ne_refused fun l => by simp
  · simp

/-- A row of format `M1B` is a byte row; a row of a UMP format is a word-group row, and of these only `D128` refuses; the others are
operations. -/
theorem exec_shape (i : Instr) :
    (∃ f, ∀ s, exec i s = byteRow s f) ∨
    (∃ n read, (∀ s, exec i s = umpRow s n read) ∧
      ((∀ ws r, read ws ≠ .refused r) ∨ ∃ g rest, i = .d128 g rest ∧ n = 4 ∧ ∀ ws, read ws = .refused .data128NotSpecified)) ∨
    i.isOperation = true := by
  cases i
  all_goals first
    | exact .inr (.inr rfl)
    | exact .inl ⟨_, fun s => by
        simp only [exec,
      execData, execNoteOff, execNoteOn, execPolyPressure, execControlChange, execProgramChange, execChannelPressure,
      execPitchBend, execSox, execMtcQf, execSongPos, execSongSel, execUndefF4, execUndefF5, execTuneReq, execEox,
      execClock, execUndefF9, execStart, execContinue, execStop, execUndefFD, execActiveSense, execSysReset]
        rfl⟩
    | refine .inr (.inl ⟨_, _, fun s => by
        simp only [exec, sys1Row, sys1Unrecognized, cv1Row, sx7Row, cv2Row, unrecognizedType,
      execUmpMtcQf, execUmpSongPos, execUmpSongSel, execUmpTuneReq, execUmpClock, execUmpStart, execUmpContinue,
      execUmpStop, execUmpActiveSense, execUmpSysReset, execSys1Unrec00_7F, execSys1Unrec80_BF, execSys1UnrecC0_DF,
      execSys1UnrecE0_EF, execSys1UnrecF0, execSys1UnrecF4, execSys1UnrecF5, execSys1UnrecF7, execSys1UnrecF9,
      execSys1UnrecFD, execUmpNoteOff, execUmpNoteOn, execUmpPolyPressure, execUmpControlChange, execUmpProgramChange,
      execUmpChannelPressure, execUmpPitchBend, execCv1Unrec0_7, execCv1UnrecF, execSx7Complete, execSx7Start,
      execSx7Continue, execSx7End, execSx7Reserved4_7, execSx7Reserved8_F, execM2RegPnCtrl, execM2AsgPnCtrl,
      execM2RegCtrl, execM2AsgCtrl, execM2RelRegCtrl, execM2RelAsgCtrl, execM2PnPitchBend, execM2Reserved7,
      execM2NoteOff, execM2NoteOn, execM2PolyPressure, execM2ControlChange, execM2ProgramChange, execM2ChannelPressure,
      execM2PitchBend, execM2PnManagement, execD128, execUnrecMt0, execUnrecMt6, execUnrecMt7, execUnrecMt8,
      execUnrecMt9, execUnrecMtA, execUnrecMtB, execUnrecMtC, execUnrecMtD, execUnrecMtE, execUnrecMtF]
        rfl, ?_⟩)
  case d128 g rest => exact .inr ⟨g, rest, rfl, rfl, fun _ => rfl⟩
  all_goals
    refine .inl fun ws r => ?_
    first
      | (intro h; cases h)
      | exact sx7CompleteResult_ne_refused _ _ _ _ _ _
      | exact m2ProgramChangeResult_ne_refused _ _ _ _ _
      | (refine field7_ne_refused fun v => ?_; simp; done)
      | (refine field7_ne_refused fun v => field7_ne_refused fun v' => ?_; simp)
end Machine
end Sys2Proof
end

