-- ==== Sys2Proof/Laws/PerInstr.lean ====
section
/-! SUPPORT. Statements made for every instruction: family `TableRow`, the row of the opcode table an instruction's encoding matches. -/

namespace Sys2Proof.Laws

open Sys2Proof.Machine

/-- The encoding of an instruction matches the row of the opcode table that has its mnemonic (R84). -/
def TableRow.Statement (i : Instr) : Prop :=
  ∃ r ∈ opcodeTable, r.mnemonic = i.mnemonic ∧ r.fits (encode i) = true

theorem of_row {i : Instr} (k : Nat) (r : Row) (hk : opcodeTable[k]? = some r) (hm : r.mnemonic = i.mnemonic)
    (hf : r.fits (encode i) = true) : TableRow.Statement i :=
  ⟨r, List.mem_of_getElem? hk, hm, hf⟩

/-- A mask on the two upper bytes of a word is one on each. -/
theorem fits_word (name : String) (fmt : Fmt) (m0 m1 p0 p1 : Byte) {b0 b1 b2 b3 : Byte} (h8 : fmt ≠ .m1b) (hop : fmt ≠ .op)
    (h0 : b0 &&& m0 = p0) (h1 : b1 &&& m1 = p1) :
    Row.fits ⟨name, fmt, pkWord m0 m1 0 0, pkWord p0 p1 0 0⟩ (.word (pkWord b0 b1 b2 b3)) = true := by
  subst h0 h1
  have : pkWord b0 b1 b2 b3 &&& pkWord m0 m1 0 0 = pkWord (b0 &&& m0) (b1 &&& m1) 0 0 := by
    have e : (b0 ++ b1 ++ b2 ++ b3 : BitVec (8 + 8 + 8 + 8)) &&& (m0 ++ m1 ++ 0#8 ++ 0#8) =
        (b0 &&& m0) ++ (b1 &&& m1) ++ 0#8 ++ 0#8 := by simp only [BitVec.and_append, BitVec.and_zero]
    exact e
  simp only [Row.fits, this, decide_true, ne_eq, h8, hop, not_false_eq_true, Bool.and_self]

/-- The select code of an operation. -/
theorem fits_op (name : String) {code : BitVec 4} {pattern : Word} {ports : Ports}
    (h : code.setWidth 32 &&& 0x0000000F#32 = pattern) :
    Row.fits ⟨name, .op, 0x0000000F#32, pattern⟩ (.op ⟨code, ports⟩) = true := by
  simp only [Row.fits, h, decide_true, Bool.and_self]

/-- A mask on the message-type nibble of a word. -/
theorem fits_top (name : String) (fmt : Fmt) (mt group : U4) (rest : BitVec 24) (h8 : fmt ≠ .m1b) (hop : fmt ≠ .op) :
    Row.fits ⟨name, fmt, pkTop 0xF#4 0 0, pkTop mt 0 0⟩ (.word (pkTop mt group rest)) = true := by
  have : pkTop mt group rest &&& pkTop 0xF#4 0 0 = pkTop mt 0 0 := by
    have h : mt &&& 0xF#4 = mt := by revert mt; decide
    have e : (mt ++ group ++ rest : BitVec (4 + 4 + 24)) &&& (0xF#4 ++ 0#4 ++ 0#24) = mt ++ 0#4 ++ 0#24 := by
      simp only [BitVec.and_append, BitVec.and_zero, h]
    exact e
  simp only [Row.fits, this, decide_true, ne_eq, h8, hop, not_false_eq_true, Bool.and_self]

theorem TableRow.data (value : U7) :
    TableRow.Statement (.data value) :=
  of_row 0 ⟨"DATA", .m1b, 0x00000080#32, 0x00000000#32⟩ rfl rfl (by revert value; decide)

theorem TableRow.noteOff (channel : U4) :
    TableRow.Statement (.noteOff channel) :=
  of_row 1 ⟨"NOTE_OFF", .m1b, 0x000000F0#32, 0x00000080#32⟩ rfl rfl (by revert channel; decide)

theorem TableRow.noteOn (channel : U4) :
    TableRow.Statement (.noteOn channel) :=
  of_row 2 ⟨"NOTE_ON", .m1b, 0x000000F0#32, 0x00000090#32⟩ rfl rfl (by revert channel; decide)

theorem TableRow.polyPressure (channel : U4) :
    TableRow.Statement (.polyPressure channel) :=
  of_row 3 ⟨"POLY_PRESSURE", .m1b, 0x000000F0#32, 0x000000A0#32⟩ rfl rfl (by revert channel; decide)

theorem TableRow.controlChange (channel : U4) :
    TableRow.Statement (.controlChange channel) :=
  of_row 4 ⟨"CONTROL_CHANGE", .m1b, 0x000000F0#32, 0x000000B0#32⟩ rfl rfl (by revert channel; decide)

theorem TableRow.programChange (channel : U4) :
    TableRow.Statement (.programChange channel) :=
  of_row 5 ⟨"PROGRAM_CHANGE", .m1b, 0x000000F0#32, 0x000000C0#32⟩ rfl rfl (by revert channel; decide)

theorem TableRow.channelPressure (channel : U4) :
    TableRow.Statement (.channelPressure channel) :=
  of_row 6 ⟨"CHANNEL_PRESSURE", .m1b, 0x000000F0#32, 0x000000D0#32⟩ rfl rfl (by revert channel; decide)

theorem TableRow.pitchBend (channel : U4) :
    TableRow.Statement (.pitchBend channel) :=
  of_row 7 ⟨"PITCH_BEND", .m1b, 0x000000F0#32, 0x000000E0#32⟩ rfl rfl (by revert channel; decide)

theorem TableRow.sox :
    TableRow.Statement (.sox) :=
  of_row 8 ⟨"SOX", .m1b, 0x000000FF#32, 0x000000F0#32⟩ rfl rfl (by decide)

theorem TableRow.mtcQf :
    TableRow.Statement (.mtcQf) :=
  of_row 9 ⟨"MTC_QF", .m1b, 0x000000FF#32, 0x000000F1#32⟩ rfl rfl (by decide)

theorem TableRow.songPos :
    TableRow.Statement (.songPos) :=
  of_row 10 ⟨"SONG_POS", .m1b, 0x000000FF#32, 0x000000F2#32⟩ rfl rfl (by decide)

theorem TableRow.songSel :
    TableRow.Statement (.songSel) :=
  of_row 11 ⟨"SONG_SEL", .m1b, 0x000000FF#32, 0x000000F3#32⟩ rfl rfl (by decide)

theorem TableRow.undefF4 :
    TableRow.Statement (.undefF4) :=
  of_row 12 ⟨"UNDEF_F4", .m1b, 0x000000FF#32, 0x000000F4#32⟩ rfl rfl (by decide)

theorem TableRow.undefF5 :
    TableRow.Statement (.undefF5) :=
  of_row 13 ⟨"UNDEF_F5", .m1b, 0x000000FF#32, 0x000000F5#32⟩ rfl rfl (by decide)

theorem TableRow.tuneReq :
    TableRow.Statement (.tuneReq) :=
  of_row 14 ⟨"TUNE_REQ", .m1b, 0x000000FF#32, 0x000000F6#32⟩ rfl rfl (by decide)

theorem TableRow.eox :
    TableRow.Statement (.eox) :=
  of_row 15 ⟨"EOX", .m1b, 0x000000FF#32, 0x000000F7#32⟩ rfl rfl (by decide)

theorem TableRow.clock :
    TableRow.Statement (.clock) :=
  of_row 16 ⟨"CLOCK", .m1b, 0x000000FF#32, 0x000000F8#32⟩ rfl rfl (by decide)

theorem TableRow.undefF9 :
    TableRow.Statement (.undefF9) :=
  of_row 17 ⟨"UNDEF_F9", .m1b, 0x000000FF#32, 0x000000F9#32⟩ rfl rfl (by decide)

theorem TableRow.start :
    TableRow.Statement (.start) :=
  of_row 18 ⟨"START", .m1b, 0x000000FF#32, 0x000000FA#32⟩ rfl rfl (by decide)

theorem TableRow.continue_ :
    TableRow.Statement (.continue_) :=
  of_row 19 ⟨"CONTINUE", .m1b, 0x000000FF#32, 0x000000FB#32⟩ rfl rfl (by decide)

theorem TableRow.stop :
    TableRow.Statement (.stop) :=
  of_row 20 ⟨"STOP", .m1b, 0x000000FF#32, 0x000000FC#32⟩ rfl rfl (by decide)

theorem TableRow.undefFD :
    TableRow.Statement (.undefFD) :=
  of_row 21 ⟨"UNDEF_FD", .m1b, 0x000000FF#32, 0x000000FD#32⟩ rfl rfl (by decide)

theorem TableRow.activeSense :
    TableRow.Statement (.activeSense) :=
  of_row 22 ⟨"ACTIVE_SENSE", .m1b, 0x000000FF#32, 0x000000FE#32⟩ rfl rfl (by decide)

theorem TableRow.sysReset :
    TableRow.Statement (.sysReset) :=
  of_row 23 ⟨"SYS_RESET", .m1b, 0x000000FF#32, 0x000000FF#32⟩ rfl rfl (by decide)

theorem TableRow.umpMtcQf (group : U4) (b2 b3 : Byte) :
    TableRow.Statement (.umpMtcQf group b2 b3) :=
  of_row 24 ⟨"UMP_MTC_QF", .sys1, 0xF0FF0000#32, 0x10F10000#32⟩ rfl rfl (fits_word "UMP_MTC_QF" .sys1 0xF0#8 0xFF#8 0x10#8 0xF1#8 (by decide) (by decide) (by revert group; decide) (by decide))

theorem TableRow.umpSongPos (group : U4) (b2 b3 : Byte) :
    TableRow.Statement (.umpSongPos group b2 b3) :=
  of_row 25 ⟨"UMP_SONG_POS", .sys1, 0xF0FF0000#32, 0x10F20000#32⟩ rfl rfl (fits_word "UMP_SONG_POS" .sys1 0xF0#8 0xFF#8 0x10#8 0xF2#8 (by decide) (by decide) (by revert group; decide) (by decide))

theorem TableRow.umpSongSel (group : U4) (b2 b3 : Byte) :
    TableRow.Statement (.umpSongSel group b2 b3) :=
  of_row 26 ⟨"UMP_SONG_SEL", .sys1, 0xF0FF0000#32, 0x10F30000#32⟩ rfl rfl (fits_word "UMP_SONG_SEL" .sys1 0xF0#8 0xFF#8 0x10#8 0xF3#8 (by decide) (by decide) (by revert group; decide) (by decide))

theorem TableRow.umpTuneReq (group : U4) (b2 b3 : Byte) :
    TableRow.Statement (.umpTuneReq group b2 b3) :=
  of_row 27 ⟨"UMP_TUNE_REQ", .sys1, 0xF0FF0000#32, 0x10F60000#32⟩ rfl rfl (fits_word "UMP_TUNE_REQ" .sys1 0xF0#8 0xFF#8 0x10#8 0xF6#8 (by decide) (by decide) (by revert group; decide) (by decide))

theorem TableRow.umpClock (group : U4) (b2 b3 : Byte) :
    TableRow.Statement (.umpClock group b2 b3) :=
  of_row 28 ⟨"UMP_CLOCK", .sys1, 0xF0FF0000#32, 0x10F80000#32⟩ rfl rfl (fits_word "UMP_CLOCK" .sys1 0xF0#8 0xFF#8 0x10#8 0xF8#8 (by decide) (by decide) (by revert group; decide) (by decide))

theorem TableRow.umpStart (group : U4) (b2 b3 : Byte) :
    TableRow.Statement (.umpStart group b2 b3) :=
  of_row 29 ⟨"UMP_START", .sys1, 0xF0FF0000#32, 0x10FA0000#32⟩ rfl rfl (fits_word "UMP_START" .sys1 0xF0#8 0xFF#8 0x10#8 0xFA#8 (by decide) (by decide) (by revert group; decide) (by decide))

theorem TableRow.umpContinue (group : U4) (b2 b3 : Byte) :
    TableRow.Statement (.umpContinue group b2 b3) :=
  of_row 30 ⟨"UMP_CONTINUE", .sys1, 0xF0FF0000#32, 0x10FB0000#32⟩ rfl rfl (fits_word "UMP_CONTINUE" .sys1 0xF0#8 0xFF#8 0x10#8 0xFB#8 (by decide) (by decide) (by revert group; decide) (by decide))

theorem TableRow.umpStop (group : U4) (b2 b3 : Byte) :
    TableRow.Statement (.umpStop group b2 b3) :=
  of_row 31 ⟨"UMP_STOP", .sys1, 0xF0FF0000#32, 0x10FC0000#32⟩ rfl rfl (fits_word "UMP_STOP" .sys1 0xF0#8 0xFF#8 0x10#8 0xFC#8 (by decide) (by decide) (by revert group; decide) (by decide))

theorem TableRow.umpActiveSense (group : U4) (b2 b3 : Byte) :
    TableRow.Statement (.umpActiveSense group b2 b3) :=
  of_row 32 ⟨"UMP_ACTIVE_SENSE", .sys1, 0xF0FF0000#32, 0x10FE0000#32⟩ rfl rfl (fits_word "UMP_ACTIVE_SENSE" .sys1 0xF0#8 0xFF#8 0x10#8 0xFE#8 (by decide) (by decide) (by revert group; decide) (by decide))

theorem TableRow.umpSysReset (group : U4) (b2 b3 : Byte) :
    TableRow.Statement (.umpSysReset group b2 b3) :=
  of_row 33 ⟨"UMP_SYS_RESET", .sys1, 0xF0FF0000#32, 0x10FF0000#32⟩ rfl rfl (fits_word "UMP_SYS_RESET" .sys1 0xF0#8 0xFF#8 0x10#8 0xFF#8 (by decide) (by decide) (by revert group; decide) (by decide))

theorem TableRow.sys1Unrec00_7F (group : U4) (low : BitVec 7) (b2 b3 : Byte) :
    TableRow.Statement (.sys1Unrec00_7F group low b2 b3) :=
  of_row 34 ⟨"SYS1_UNREC_00_7F", .sys1, 0xF0800000#32, 0x10000000#32⟩ rfl rfl (fits_word "SYS1_UNREC_00_7F" .sys1 0xF0#8 0x80#8 0x10#8 0x00#8 (by decide) (by decide) (by revert group; decide) (by revert low; decide))

theorem TableRow.sys1Unrec80_BF (group : U4) (low : BitVec 6) (b2 b3 : Byte) :
    TableRow.Statement (.sys1Unrec80_BF group low b2 b3) :=
  of_row 35 ⟨"SYS1_UNREC_80_BF", .sys1, 0xF0C00000#32, 0x10800000#32⟩ rfl rfl (fits_word "SYS1_UNREC_80_BF" .sys1 0xF0#8 0xC0#8 0x10#8 0x80#8 (by decide) (by decide) (by revert group; decide) (by revert low; decide))

theorem TableRow.sys1UnrecC0_DF (group : U4) (low : BitVec 5) (b2 b3 : Byte) :
    TableRow.Statement (.sys1UnrecC0_DF group low b2 b3) :=
  of_row 36 ⟨"SYS1_UNREC_C0_DF", .sys1, 0xF0E00000#32, 0x10C00000#32⟩ rfl rfl (fits_word "SYS1_UNREC_C0_DF" .sys1 0xF0#8 0xE0#8 0x10#8 0xC0#8 (by decide) (by decide) (by revert group; decide) (by revert low; decide))

theorem TableRow.sys1UnrecE0_EF (group : U4) (low : BitVec 4) (b2 b3 : Byte) :
    TableRow.Statement (.sys1UnrecE0_EF group low b2 b3) :=
  of_row 37 ⟨"SYS1_UNREC_E0_EF", .sys1, 0xF0F00000#32, 0x10E00000#32⟩ rfl rfl (fits_word "SYS1_UNREC_E0_EF" .sys1 0xF0#8 0xF0#8 0x10#8 0xE0#8 (by decide) (by decide) (by revert group; decide) (by revert low; decide))

theorem TableRow.sys1UnrecF0 (group : U4) (b2 b3 : Byte) :
    TableRow.Statement (.sys1UnrecF0 group b2 b3) :=
  of_row 38 ⟨"SYS1_UNREC_F0", .sys1, 0xF0FF0000#32, 0x10F00000#32⟩ rfl rfl (fits_word "SYS1_UNREC_F0" .sys1 0xF0#8 0xFF#8 0x10#8 0xF0#8 (by decide) (by decide) (by revert group; decide) (by decide))

theorem TableRow.sys1UnrecF4 (group : U4) (b2 b3 : Byte) :
    TableRow.Statement (.sys1UnrecF4 group b2 b3) :=
  of_row 39 ⟨"SYS1_UNREC_F4", .sys1, 0xF0FF0000#32, 0x10F40000#32⟩ rfl rfl (fits_word "SYS1_UNREC_F4" .sys1 0xF0#8 0xFF#8 0x10#8 0xF4#8 (by decide) (by decide) (by revert group; decide) (by decide))

theorem TableRow.sys1UnrecF5 (group : U4) (b2 b3 : Byte) :
    TableRow.Statement (.sys1UnrecF5 group b2 b3) :=
  of_row 40 ⟨"SYS1_UNREC_F5", .sys1, 0xF0FF0000#32, 0x10F50000#32⟩ rfl rfl (fits_word "SYS1_UNREC_F5" .sys1 0xF0#8 0xFF#8 0x10#8 0xF5#8 (by decide) (by decide) (by revert group; decide) (by decide))

theorem TableRow.sys1UnrecF7 (group : U4) (b2 b3 : Byte) :
    TableRow.Statement (.sys1UnrecF7 group b2 b3) :=
  of_row 41 ⟨"SYS1_UNREC_F7", .sys1, 0xF0FF0000#32, 0x10F70000#32⟩ rfl rfl (fits_word "SYS1_UNREC_F7" .sys1 0xF0#8 0xFF#8 0x10#8 0xF7#8 (by decide) (by decide) (by revert group; decide) (by decide))

theorem TableRow.sys1UnrecF9 (group : U4) (b2 b3 : Byte) :
    TableRow.Statement (.sys1UnrecF9 group b2 b3) :=
  of_row 42 ⟨"SYS1_UNREC_F9", .sys1, 0xF0FF0000#32, 0x10F90000#32⟩ rfl rfl (fits_word "SYS1_UNREC_F9" .sys1 0xF0#8 0xFF#8 0x10#8 0xF9#8 (by decide) (by decide) (by revert group; decide) (by decide))

theorem TableRow.sys1UnrecFD (group : U4) (b2 b3 : Byte) :
    TableRow.Statement (.sys1UnrecFD group b2 b3) :=
  of_row 43 ⟨"SYS1_UNREC_FD", .sys1, 0xF0FF0000#32, 0x10FD0000#32⟩ rfl rfl (fits_word "SYS1_UNREC_FD" .sys1 0xF0#8 0xFF#8 0x10#8 0xFD#8 (by decide) (by decide) (by revert group; decide) (by decide))

theorem TableRow.umpNoteOff (group channel : U4) (b2 b3 : Byte) :
    TableRow.Statement (.umpNoteOff group channel b2 b3) :=
  of_row 44 ⟨"UMP_NOTE_OFF", .cv1, 0xF0F00000#32, 0x20800000#32⟩ rfl rfl (fits_word "UMP_NOTE_OFF" .cv1 0xF0#8 0xF0#8 0x20#8 0x80#8 (by decide) (by decide) (by revert group; decide) (by revert channel; decide))

theorem TableRow.umpNoteOn (group channel : U4) (b2 b3 : Byte) :
    TableRow.Statement (.umpNoteOn group channel b2 b3) :=
  of_row 45 ⟨"UMP_NOTE_ON", .cv1, 0xF0F00000#32, 0x20900000#32⟩ rfl rfl (fits_word "UMP_NOTE_ON" .cv1 0xF0#8 0xF0#8 0x20#8 0x90#8 (by decide) (by decide) (by revert group; decide) (by revert channel; decide))

theorem TableRow.umpPolyPressure (group channel : U4) (b2 b3 : Byte) :
    TableRow.Statement (.umpPolyPressure group channel b2 b3) :=
  of_row 46 ⟨"UMP_POLY_PRESSURE", .cv1, 0xF0F00000#32, 0x20A00000#32⟩ rfl rfl (fits_word "UMP_POLY_PRESSURE" .cv1 0xF0#8 0xF0#8 0x20#8 0xA0#8 (by decide) (by decide) (by revert group; decide) (by revert channel; decide))

theorem TableRow.umpControlChange (group channel : U4) (b2 b3 : Byte) :
    TableRow.Statement (.umpControlChange group channel b2 b3) :=
  of_row 47 ⟨"UMP_CONTROL_CHANGE", .cv1, 0xF0F00000#32, 0x20B00000#32⟩ rfl rfl (fits_word "UMP_CONTROL_CHANGE" .cv1 0xF0#8 0xF0#8 0x20#8 0xB0#8 (by decide) (by decide) (by revert group; decide) (by revert channel; decide))

theorem TableRow.umpProgramChange (group channel : U4) (b2 b3 : Byte) :
    TableRow.Statement (.umpProgramChange group channel b2 b3) :=
  of_row 48 ⟨"UMP_PROGRAM_CHANGE", .cv1, 0xF0F00000#32, 0x20C00000#32⟩ rfl rfl (fits_word "UMP_PROGRAM_CHANGE" .cv1 0xF0#8 0xF0#8 0x20#8 0xC0#8 (by decide) (by decide) (by revert group; decide) (by revert channel; decide))

theorem TableRow.umpChannelPressure (group channel : U4) (b2 b3 : Byte) :
    TableRow.Statement (.umpChannelPressure group channel b2 b3) :=
  of_row 49 ⟨"UMP_CHANNEL_PRESSURE", .cv1, 0xF0F00000#32, 0x20D00000#32⟩ rfl rfl (fits_word "UMP_CHANNEL_PRESSURE" .cv1 0xF0#8 0xF0#8 0x20#8 0xD0#8 (by decide) (by decide) (by revert group; decide) (by revert channel; decide))

theorem TableRow.umpPitchBend (group channel : U4) (b2 b3 : Byte) :
    TableRow.Statement (.umpPitchBend group channel b2 b3) :=
  of_row 50 ⟨"UMP_PITCH_BEND", .cv1, 0xF0F00000#32, 0x20E00000#32⟩ rfl rfl (fits_word "UMP_PITCH_BEND" .cv1 0xF0#8 0xF0#8 0x20#8 0xE0#8 (by decide) (by decide) (by revert group; decide) (by revert channel; decide))

theorem TableRow.cv1Unrec0_7 (group : U4) (status : BitVec 3) (channel : U4) (b2 b3 : Byte) :
    TableRow.Statement (.cv1Unrec0_7 group status channel b2 b3) :=
  of_row 51 ⟨"CV1_UNREC_0_7", .cv1, 0xF0800000#32, 0x20000000#32⟩ rfl rfl (fits_word "CV1_UNREC_0_7" .cv1 0xF0#8 0x80#8 0x20#8 0x00#8 (by decide) (by decide) (by revert group; decide) (by revert status channel; decide))

theorem TableRow.cv1UnrecF (group channel : U4) (b2 b3 : Byte) :
    TableRow.Statement (.cv1UnrecF group channel b2 b3) :=
  of_row 52 ⟨"CV1_UNREC_F", .cv1, 0xF0F00000#32, 0x20F00000#32⟩ rfl rfl (fits_word "CV1_UNREC_F" .cv1 0xF0#8 0xF0#8 0x20#8 0xF0#8 (by decide) (by decide) (by revert group; decide) (by revert channel; decide))

theorem TableRow.sx7Complete (group nbytes : U4) (b2 b3 : Byte) :
    TableRow.Statement (.sx7Complete group nbytes b2 b3) :=
  of_row 53 ⟨"SX7_COMPLETE", .sx7, 0xF0F00000#32, 0x30000000#32⟩ rfl rfl (fits_word "SX7_COMPLETE" .sx7 0xF0#8 0xF0#8 0x30#8 0x00#8 (by decide) (by decide) (by revert group; decide) (by revert nbytes; decide))

theorem TableRow.sx7Start (group nbytes : U4) (b2 b3 : Byte) :
    TableRow.Statement (.sx7Start group nbytes b2 b3) :=
  of_row 54 ⟨"SX7_START", .sx7, 0xF0F00000#32, 0x30100000#32⟩ rfl rfl (fits_word "SX7_START" .sx7 0xF0#8 0xF0#8 0x30#8 0x10#8 (by decide) (by decide) (by revert group; decide) (by revert nbytes; decide))

theorem TableRow.sx7Continue (group nbytes : U4) (b2 b3 : Byte) :
    TableRow.Statement (.sx7Continue group nbytes b2 b3) :=
  of_row 55 ⟨"SX7_CONTINUE", .sx7, 0xF0F00000#32, 0x30200000#32⟩ rfl rfl (fits_word "SX7_CONTINUE" .sx7 0xF0#8 0xF0#8 0x30#8 0x20#8 (by decide) (by decide) (by revert group; decide) (by revert nbytes; decide))

theorem TableRow.sx7End (group nbytes : U4) (b2 b3 : Byte) :
    TableRow.Statement (.sx7End group nbytes b2 b3) :=
  of_row 56 ⟨"SX7_END", .sx7, 0xF0F00000#32, 0x30300000#32⟩ rfl rfl (fits_word "SX7_END" .sx7 0xF0#8 0xF0#8 0x30#8 0x30#8 (by decide) (by decide) (by revert group; decide) (by revert nbytes; decide))

theorem TableRow.sx7Reserved4_7 (group : U4) (status : BitVec 2) (nbytes : U4) (b2 b3 : Byte) :
    TableRow.Statement (.sx7Reserved4_7 group status nbytes b2 b3) :=
  of_row 57 ⟨"SX7_RESERVED_4_7", .sx7, 0xF0C00000#32, 0x30400000#32⟩ rfl rfl (fits_word "SX7_RESERVED_4_7" .sx7 0xF0#8 0xC0#8 0x30#8 0x40#8 (by decide) (by decide) (by revert group; decide) (by revert status nbytes; decide))

theorem TableRow.sx7Reserved8_F (group : U4) (status : BitVec 3) (nbytes : U4) (b2 b3 : Byte) :
    TableRow.Statement (.sx7Reserved8_F group status nbytes b2 b3) :=
  of_row 58 ⟨"SX7_RESERVED_8_F", .sx7, 0xF0800000#32, 0x30800000#32⟩ rfl rfl (fits_word "SX7_RESERVED_8_F" .sx7 0xF0#8 0x80#8 0x30#8 0x80#8 (by decide) (by decide) (by revert group; decide) (by revert status nbytes; decide))

theorem TableRow.m2RegPnCtrl (group channel : U4) (b2 b3 : Byte) :
    TableRow.Statement (.m2RegPnCtrl group channel b2 b3) :=
  of_row 59 ⟨"M2_REG_PN_CTRL", .cv2, 0xF0F00000#32, 0x40000000#32⟩ rfl rfl (fits_word "M2_REG_PN_CTRL" .cv2 0xF0#8 0xF0#8 0x40#8 0x00#8 (by decide) (by decide) (by revert group; decide) (by revert channel; decide))

theorem TableRow.m2AsgPnCtrl (group channel : U4) (b2 b3 : Byte) :
    TableRow.Statement (.m2AsgPnCtrl group channel b2 b3) :=
  of_row 60 ⟨"M2_ASG_PN_CTRL", .cv2, 0xF0F00000#32, 0x40100000#32⟩ rfl rfl (fits_word "M2_ASG_PN_CTRL" .cv2 0xF0#8 0xF0#8 0x40#8 0x10#8 (by decide) (by decide) (by revert group; decide) (by revert channel; decide))

theorem TableRow.m2RegCtrl (group channel : U4) (b2 b3 : Byte) :
    TableRow.Statement (.m2RegCtrl group channel b2 b3) :=
  of_row 61 ⟨"M2_REG_CTRL", .cv2, 0xF0F00000#32, 0x40200000#32⟩ rfl rfl (fits_word "M2_REG_CTRL" .cv2 0xF0#8 0xF0#8 0x40#8 0x20#8 (by decide) (by decide) (by revert group; decide) (by revert channel; decide))

theorem TableRow.m2AsgCtrl (group channel : U4) (b2 b3 : Byte) :
    TableRow.Statement (.m2AsgCtrl group channel b2 b3) :=
  of_row 62 ⟨"M2_ASG_CTRL", .cv2, 0xF0F00000#32, 0x40300000#32⟩ rfl rfl (fits_word "M2_ASG_CTRL" .cv2 0xF0#8 0xF0#8 0x40#8 0x30#8 (by decide) (by decide) (by revert group; decide) (by revert channel; decide))

theorem TableRow.m2RelRegCtrl (group channel : U4) (b2 b3 : Byte) :
    TableRow.Statement (.m2RelRegCtrl group channel b2 b3) :=
  of_row 63 ⟨"M2_REL_REG_CTRL", .cv2, 0xF0F00000#32, 0x40400000#32⟩ rfl rfl (fits_word "M2_REL_REG_CTRL" .cv2 0xF0#8 0xF0#8 0x40#8 0x40#8 (by decide) (by decide) (by revert group; decide) (by revert channel; decide))

theorem TableRow.m2RelAsgCtrl (group channel : U4) (b2 b3 : Byte) :
    TableRow.Statement (.m2RelAsgCtrl group channel b2 b3) :=
  of_row 64 ⟨"M2_REL_ASG_CTRL", .cv2, 0xF0F00000#32, 0x40500000#32⟩ rfl rfl (fits_word "M2_REL_ASG_CTRL" .cv2 0xF0#8 0xF0#8 0x40#8 0x50#8 (by decide) (by decide) (by revert group; decide) (by revert channel; decide))

theorem TableRow.m2PnPitchBend (group channel : U4) (b2 b3 : Byte) :
    TableRow.Statement (.m2PnPitchBend group channel b2 b3) :=
  of_row 65 ⟨"M2_PN_PITCH_BEND", .cv2, 0xF0F00000#32, 0x40600000#32⟩ rfl rfl (fits_word "M2_PN_PITCH_BEND" .cv2 0xF0#8 0xF0#8 0x40#8 0x60#8 (by decide) (by decide) (by revert group; decide) (by revert channel; decide))

theorem TableRow.m2Reserved7 (group channel : U4) (b2 b3 : Byte) :
    TableRow.Statement (.m2Reserved7 group channel b2 b3) :=
  of_row 66 ⟨"M2_RESERVED_7", .cv2, 0xF0F00000#32, 0x40700000#32⟩ rfl rfl (fits_word "M2_RESERVED_7" .cv2 0xF0#8 0xF0#8 0x40#8 0x70#8 (by decide) (by decide) (by revert group; decide) (by revert channel; decide))

theorem TableRow.m2NoteOff (group channel : U4) (b2 b3 : Byte) :
    TableRow.Statement (.m2NoteOff group channel b2 b3) :=
  of_row 67 ⟨"M2_NOTE_OFF", .cv2, 0xF0F00000#32, 0x40800000#32⟩ rfl rfl (fits_word "M2_NOTE_OFF" .cv2 0xF0#8 0xF0#8 0x40#8 0x80#8 (by decide) (by decide) (by revert group; decide) (by revert channel; decide))

theorem TableRow.m2NoteOn (group channel : U4) (b2 b3 : Byte) :
    TableRow.Statement (.m2NoteOn group channel b2 b3) :=
  of_row 68 ⟨"M2_NOTE_ON", .cv2, 0xF0F00000#32, 0x40900000#32⟩ rfl rfl (fits_word "M2_NOTE_ON" .cv2 0xF0#8 0xF0#8 0x40#8 0x90#8 (by decide) (by decide) (by revert group; decide) (by revert channel; decide))

theorem TableRow.m2PolyPressure (group channel : U4) (b2 b3 : Byte) :
    TableRow.Statement (.m2PolyPressure group channel b2 b3) :=
  of_row 69 ⟨"M2_POLY_PRESSURE", .cv2, 0xF0F00000#32, 0x40A00000#32⟩ rfl rfl (fits_word "M2_POLY_PRESSURE" .cv2 0xF0#8 0xF0#8 0x40#8 0xA0#8 (by decide) (by decide) (by revert group; decide) (by revert channel; decide))

theorem TableRow.m2ControlChange (group channel : U4) (b2 b3 : Byte) :
    TableRow.Statement (.m2ControlChange group channel b2 b3) :=
  of_row 70 ⟨"M2_CONTROL_CHANGE", .cv2, 0xF0F00000#32, 0x40B00000#32⟩ rfl rfl (fits_word "M2_CONTROL_CHANGE" .cv2 0xF0#8 0xF0#8 0x40#8 0xB0#8 (by decide) (by decide) (by revert group; decide) (by revert channel; decide))

theorem TableRow.m2ProgramChange (group channel : U4) (b2 b3 : Byte) :
    TableRow.Statement (.m2ProgramChange group channel b2 b3) :=
  of_row 71 ⟨"M2_PROGRAM_CHANGE", .cv2, 0xF0F00000#32, 0x40C00000#32⟩ rfl rfl (fits_word "M2_PROGRAM_CHANGE" .cv2 0xF0#8 0xF0#8 0x40#8 0xC0#8 (by decide) (by decide) (by revert group; decide) (by revert channel; decide))

theorem TableRow.m2ChannelPressure (group channel : U4) (b2 b3 : Byte) :
    TableRow.Statement (.m2ChannelPressure group channel b2 b3) :=
  of_row 72 ⟨"M2_CHANNEL_PRESSURE", .cv2, 0xF0F00000#32, 0x40D00000#32⟩ rfl rfl (fits_word "M2_CHANNEL_PRESSURE" .cv2 0xF0#8 0xF0#8 0x40#8 0xD0#8 (by decide) (by decide) (by revert group; decide) (by revert channel; decide))

theorem TableRow.m2PitchBend (group channel : U4) (b2 b3 : Byte) :
    TableRow.Statement (.m2PitchBend group channel b2 b3) :=
  of_row 73 ⟨"M2_PITCH_BEND", .cv2, 0xF0F00000#32, 0x40E00000#32⟩ rfl rfl (fits_word "M2_PITCH_BEND" .cv2 0xF0#8 0xF0#8 0x40#8 0xE0#8 (by decide) (by decide) (by revert group; decide) (by revert channel; decide))

theorem TableRow.m2PnManagement (group channel : U4) (b2 b3 : Byte) :
    TableRow.Statement (.m2PnManagement group channel b2 b3) :=
  of_row 74 ⟨"M2_PN_MANAGEMENT", .cv2, 0xF0F00000#32, 0x40F00000#32⟩ rfl rfl (fits_word "M2_PN_MANAGEMENT" .cv2 0xF0#8 0xF0#8 0x40#8 0xF0#8 (by decide) (by decide) (by revert group; decide) (by revert channel; decide))

theorem TableRow.d128 (group : U4) (rest : BitVec 24) :
    TableRow.Statement (.d128 group rest) :=
  of_row 75 ⟨"D128", .d128, 0xF0000000#32, 0x50000000#32⟩ rfl rfl (fits_top "D128" .d128 0x5#4 group rest (by decide) (by decide))

theorem TableRow.unrecMt0 (group : U4) (rest : BitVec 24) :
    TableRow.Statement (.unrecMt0 group rest) :=
  of_row 76 ⟨"UNREC_MT_0", .unrec, 0xF0000000#32, 0x00000000#32⟩ rfl rfl (fits_top "UNREC_MT_0" .unrec 0x0#4 group rest (by decide) (by decide))

theorem TableRow.unrecMt6 (group : U4) (rest : BitVec 24) :
    TableRow.Statement (.unrecMt6 group rest) :=
  of_row 77 ⟨"UNREC_MT_6", .unrec, 0xF0000000#32, 0x60000000#32⟩ rfl rfl (fits_top "UNREC_MT_6" .unrec 0x6#4 group rest (by decide) (by decide))

theorem TableRow.unrecMt7 (group : U4) (rest : BitVec 24) :
    TableRow.Statement (.unrecMt7 group rest) :=
  of_row 78 ⟨"UNREC_MT_7", .unrec, 0xF0000000#32, 0x70000000#32⟩ rfl rfl (fits_top "UNREC_MT_7" .unrec 0x7#4 group rest (by decide) (by decide))

theorem TableRow.unrecMt8 (group : U4) (rest : BitVec 24) :
    TableRow.Statement (.unrecMt8 group rest) :=
  of_row 79 ⟨"UNREC_MT_8", .unrec, 0xF0000000#32, 0x80000000#32⟩ rfl rfl (fits_top "UNREC_MT_8" .unrec 0x8#4 group rest (by decide) (by decide))

theorem TableRow.unrecMt9 (group : U4) (rest : BitVec 24) :
    TableRow.Statement (.unrecMt9 group rest) :=
  of_row 80 ⟨"UNREC_MT_9", .unrec, 0xF0000000#32, 0x90000000#32⟩ rfl rfl (fits_top "UNREC_MT_9" .unrec 0x9#4 group rest (by decide) (by decide))

theorem TableRow.unrecMtA (group : U4) (rest : BitVec 24) :
    TableRow.Statement (.unrecMtA group rest) :=
  of_row 81 ⟨"UNREC_MT_A", .unrec, 0xF0000000#32, 0xA0000000#32⟩ rfl rfl (fits_top "UNREC_MT_A" .unrec 0xA#4 group rest (by decide) (by decide))

theorem TableRow.unrecMtB (group : U4) (rest : BitVec 24) :
    TableRow.Statement (.unrecMtB group rest) :=
  of_row 82 ⟨"UNREC_MT_B", .unrec, 0xF0000000#32, 0xB0000000#32⟩ rfl rfl (fits_top "UNREC_MT_B" .unrec 0xB#4 group rest (by decide) (by decide))

theorem TableRow.unrecMtC (group : U4) (rest : BitVec 24) :
    TableRow.Statement (.unrecMtC group rest) :=
  of_row 83 ⟨"UNREC_MT_C", .unrec, 0xF0000000#32, 0xC0000000#32⟩ rfl rfl (fits_top "UNREC_MT_C" .unrec 0xC#4 group rest (by decide) (by decide))

theorem TableRow.unrecMtD (group : U4) (rest : BitVec 24) :
    TableRow.Statement (.unrecMtD group rest) :=
  of_row 84 ⟨"UNREC_MT_D", .unrec, 0xF0000000#32, 0xD0000000#32⟩ rfl rfl (fits_top "UNREC_MT_D" .unrec 0xD#4 group rest (by decide) (by decide))

theorem TableRow.unrecMtE (group : U4) (rest : BitVec 24) :
    TableRow.Statement (.unrecMtE group rest) :=
  of_row 85 ⟨"UNREC_MT_E", .unrec, 0xF0000000#32, 0xE0000000#32⟩ rfl rfl (fits_top "UNREC_MT_E" .unrec 0xE#4 group rest (by decide) (by decide))

theorem TableRow.unrecMtF (group : U4) (rest : BitVec 24) :
    TableRow.Statement (.unrecMtF group rest) :=
  of_row 86 ⟨"UNREC_MT_F", .unrec, 0xF0000000#32, 0xF0000000#32⟩ rfl rfl (fits_top "UNREC_MT_F" .unrec 0xF#4 group rest (by decide) (by decide))

theorem TableRow.m1Reset (target : Option Nat) (noz : Option Bool) :
    TableRow.Statement (.m1Reset target noz) :=
  of_row 87 ⟨"M1.RESET", .op, 0x0000000F#32, 0x00000000#32⟩ rfl rfl (fits_op "M1.RESET" (by decide))

theorem TableRow.cfgWrite (inst : Nat) (v : Bool) :
    TableRow.Statement (.cfgWrite inst v) :=
  of_row 88 ⟨"CFG.WRITE", .op, 0x0000000F#32, 0x00000001#32⟩ rfl rfl (fits_op "CFG.WRITE" (by decide))

theorem TableRow.m1Packet (inst : Nat) (bytes : List Byte) (timestamp : BitVec 64) :
    TableRow.Statement (.m1Packet inst bytes timestamp) :=
  of_row 89 ⟨"M1.PACKET", .op, 0x0000000F#32, 0x00000002#32⟩ rfl rfl (fits_op "M1.PACKET" (by decide))

theorem TableRow.sx7FromBytes (bytes : List Byte) (group : Option U4) :
    TableRow.Statement (.sx7FromBytes bytes group) :=
  of_row 90 ⟨"SX7.FROMBYTES", .op, 0x0000000F#32, 0x00000003#32⟩ rfl rfl (fits_op "SX7.FROMBYTES" (by decide))

theorem TableRow.m2Decode (words : List Word) (timestamp : BitVec 64) (protocol : Protocol) :
    TableRow.Statement (.m2Decode words timestamp protocol) :=
  of_row 91 ⟨"M2.DECODE", .op, 0x0000000F#32, 0x00000004#32⟩ rfl rfl (fits_op "M2.DECODE" (by decide))

theorem TableRow.packM1 (event : Event) :
    TableRow.Statement (.packM1 event) :=
  of_row 92 ⟨"PACK.M1", .op, 0x0000000F#32, 0x00000005#32⟩ rfl rfl (fits_op "PACK.M1" (by decide))

theorem TableRow.packUmp (event : Event) (protocol : Protocol) :
    TableRow.Statement (.packUmp event protocol) :=
  of_row 93 ⟨"PACK.UMP", .op, 0x0000000F#32, 0x00000006#32⟩ rfl rfl (fits_op "PACK.UMP" (by decide))

theorem TableRow.bp32Enc (value : Real64) :
    TableRow.Statement (.bp32Enc value) :=
  of_row 94 ⟨"BP32.ENC", .op, 0x0000000F#32, 0x00000007#32⟩ rfl rfl (fits_op "BP32.ENC" (by decide))

theorem TableRow.bp32Dec (raw : U32) :
    TableRow.Statement (.bp32Dec raw) :=
  of_row 95 ⟨"BP32.DEC", .op, 0x0000000F#32, 0x00000008#32⟩ rfl rfl (fits_op "BP32.DEC" (by decide))

theorem TableRow.u4Check (x : Int) :
    TableRow.Statement (.u4Check x) :=
  of_row 96 ⟨"U4.CHECK", .op, 0x0000000F#32, 0x00000009#32⟩ rfl rfl (fits_op "U4.CHECK" (by decide))

theorem TableRow.u7Check (x : Int) :
    TableRow.Statement (.u7Check x) :=
  of_row 97 ⟨"U7.CHECK", .op, 0x0000000F#32, 0x0000000A#32⟩ rfl rfl (fits_op "U7.CHECK" (by decide))

theorem TableRow.mfrValid (m : Mfr) :
    TableRow.Statement (.mfrValid m) :=
  of_row 98 ⟨"MFR.VALID", .op, 0x0000000F#32, 0x0000000B#32⟩ rfl rfl (fits_op "MFR.VALID" (by decide))

theorem TableRow.evMake (raw : RawEvent) :
    TableRow.Statement (.evMake raw) :=
  of_row 99 ⟨"EV.MAKE", .op, 0x0000000F#32, 0x0000000C#32⟩ rfl rfl (fits_op "EV.MAKE" (by decide))

theorem TableRow.evEq (a b : Event) :
    TableRow.Statement (.evEq a b) :=
  of_row 100 ⟨"EV.EQ", .op, 0x0000000F#32, 0x0000000D#32⟩ rfl rfl (fits_op "EV.EQ" (by decide))

theorem TableRow.m1Abandon (inst : Nat) :
    TableRow.Statement (.m1Abandon inst) :=
  of_row 101 ⟨"M1.ABANDON", .op, 0x0000000F#32, 0x0000000E#32⟩ rfl rfl (fits_op "M1.ABANDON" (by decide))

theorem TableRow.opReservedF :
    TableRow.Statement (.opReservedF) :=
  of_row 102 ⟨"OP_RESERVED_F", .op, 0x0000000F#32, 0x0000000F#32⟩ rfl rfl (fits_op "OP_RESERVED_F" (by decide))

end Sys2Proof.Laws
end

