-- ==== Sys2Proof/Laws/Rows.lean ====
section
/-! SUPPORT. What the decoder gives for a byte, a first word and an operation, and all that an operation can do when it answers next. -/

namespace Sys2Proof.Machine

/-! ### Bytes (R61 to R66) -/

/-- A byte is a data byte, a channel status of one of the seven kinds, or one of the sixteen system bytes. -/
theorem byte_cases (b : Byte) :
    b.toNat < 0x80 ∨
    (∃ n, b = pkNib 0x8#4 n) ∨ (∃ n, b = pkNib 0x9#4 n) ∨ (∃ n, b = pkNib 0xA#4 n) ∨ (∃ n, b = pkNib 0xB#4 n) ∨
    (∃ n, b = pkNib 0xC#4 n) ∨ (∃ n, b = pkNib 0xD#4 n) ∨ (∃ n, b = pkNib 0xE#4 n) ∨
    b = 0xF0#8 ∨ b = 0xF1#8 ∨ b = 0xF2#8 ∨ b = 0xF3#8 ∨ b = 0xF4#8 ∨ b = 0xF5#8 ∨ b = 0xF6#8 ∨ b = 0xF7#8 ∨
    b = 0xF8#8 ∨ b = 0xF9#8 ∨ b = 0xFA#8 ∨ b = 0xFB#8 ∨ b = 0xFC#8 ∨ b = 0xFD#8 ∨ b = 0xFE#8 ∨ b = 0xFF#8 := by
  have hb := pkNib_hiNib_loNib b
  generalize hiNib b = k at hb
  generalize loNib b = n at hb
  subst hb
  have hk : ∀ k : U4, k.toNat < 8 ∨ k = 8 ∨ k = 9 ∨ k = 0xA ∨ k = 0xB ∨ k = 0xC ∨ k = 0xD ∨ k = 0xE ∨ k = 0xF := by decide
  rcases hk k with h | rfl | rfl | rfl | rfl | rfl | rfl | rfl | rfl
  · left
    rw [pkNib_toNat]
    have := n.isLt
    omega
  · exact .inr (.inl ⟨n, rfl⟩)
  · exact .inr (.inr (.inl ⟨n, rfl⟩))
  · exact .inr (.inr (.inr (.inl ⟨n, rfl⟩)))
  · exact .inr (.inr (.inr (.inr (.inl ⟨n, rfl⟩))))
  · exact .inr (.inr (.inr (.inr (.inr (.inl ⟨n, rfl⟩)))))
  · exact .inr (.inr (.inr (.inr (.inr (.inr (.inl ⟨n, rfl⟩))))))
  · exact .inr (.inr (.inr (.inr (.inr (.inr (.inr (.inl ⟨n, rfl⟩)))))))
  · right; right; right; right; right; right; right; right
    revert n
    decide

theorem decodeByte_data : ∀ b : Byte, b.toNat < 0x80 → decodeByte b = .data (low7 b) := by decide

theorem decodeByte_channel : ∀ n : U4,
    decodeByte (pkNib 0x8#4 n) = .noteOff n ∧ decodeByte (pkNib 0x9#4 n) = .noteOn n ∧
    decodeByte (pkNib 0xA#4 n) = .polyPressure n ∧ decodeByte (pkNib 0xB#4 n) = .controlChange n ∧
    decodeByte (pkNib 0xC#4 n) = .programChange n ∧ decodeByte (pkNib 0xD#4 n) = .channelPressure n ∧
    decodeByte (pkNib 0xE#4 n) = .pitchBend n := by decide

/-! ### First words (R70 to R80) -/

theorem word1_take (ws rest : List Word) (h : 2 ≤ ws.length) : word1 (ws.take 2 ++ rest) = word1 ws := by
  match ws, h with
  | _ :: _ :: _, _ => rfl

/-- Every first word is a word-group row. -/
theorem decodeWord_umpRow (w : Word) : ∃ n read, ∀ s, exec (decodeWord w) s = umpRow s n read := by
  unfold decodeWord decodeSys1 decodeCv1 decodeSx7 decodeCv2
  dsimp only
  repeat' split
  all_goals exact ⟨_, _, fun _ => rfl⟩

/-- A first word of a message type with `n` words is a row of `n` words that reads no more than `n` of them (R71, R222). -/
theorem decodeWord_reads (w : Word) (n : Nat) (hn : nwords (wordMt w) = some n) :
    ∃ read, (∀ s, exec (decodeWord w) s = umpRow s n read) ∧
      ∀ ws rest, n ≤ ws.length → read (ws.take n ++ rest) = read ws := by
  unfold decodeWord decodeSys1 decodeCv1 decodeSx7 decodeCv2
  dsimp only
  unfold nwords at hn
  split at hn <;> cases hn <;> rename_i hh <;> simp only [hh]
  all_goals (repeat' split)
  all_goals first
    | exact ⟨_, fun _ => rfl, fun _ _ _ => rfl⟩
    | exact ⟨_, fun _ => rfl, fun ws rest h => by (try dsimp only); rw [word1_take ws rest h]⟩

/-! ### Operations (R81) -/

theorem decodeOp_isOperation (r : Request) : (decodeOp r).isOperation = true := by
  unfold decodeOp
  dsimp only
  split <;> rfl

/-- All an operation can do when it answers next: return an outcome, or, in a quiescent block, act on one instance, open a packet, or open
a word group. -/
theorem operation_next {i : Instr} {s t : State} (hop : i.isOperation = true) (e : exec i s = .next t) :
    (∃ r, t = s.reply r) ∨
    (s.phase = .quiescent ∧
      ((∃ noz, i = .m1Reset none noz ∧
        t = { s with parsers := s.parsers ++ [some (Parser.fresh (noz.getD Config.nozReset))] }.reply (.parser s.parsers.length)) ∨
      (∃ h p noz, i = .m1Reset (some h) noz ∧ s.parser? h = some p ∧
        t = (s.setParser h (some (Parser.fresh (noz.getD Config.nozReset)))).reply (.parser h)) ∨
      (∃ h p v, i = .cfgWrite h v ∧ s.parser? h = some p ∧ t = (s.setParser h (some (writeNoz v p))).reply .done) ∨
      (∃ h p, i = .m1Abandon h ∧ s.parser? h = some p ∧ t = (s.setParser h none).reply .done) ∨
      (∃ h p bytes ts, i = .m1Packet h bytes ts ∧ s.parser? h = some p ∧
        t = { s.setParser h (some (startPacket s.params.rsScope p)) with phase := .packet h bytes }) ∨
      (∃ w ws ts protocol, i = .m2Decode (w :: ws) ts protocol ∧ t = { s with phase := .group (w :: ws) }))) := by
  cases i <;> first | (cases hop; done) | skip
  case m1Reset target noz =>
    obtain ⟨hq, e⟩ := whenQuiescent_next e
    refine .inr ⟨hq, ?_⟩
    cases target with
    | none => cases e; exact .inl ⟨noz, rfl, rfl⟩
    | some h =>
      obtain ⟨p, hp, e⟩ := withParser_next e
      cases e
      exact .inr (.inl ⟨h, p, noz, rfl, hp, rfl⟩)
  case cfgWrite h v =>
    obtain ⟨hq, e⟩ := whenQuiescent_next e
    obtain ⟨p, hp, e⟩ := withParser_next e
    cases e
    exact .inr ⟨hq, .inr (.inr (.inl ⟨h, p, v, rfl, hp, rfl⟩))⟩
  case m1Abandon h =>
    obtain ⟨hq, e⟩ := whenQuiescent_next e
    obtain ⟨p, hp, e⟩ := withParser_next e
    cases e
    exact .inr ⟨hq, .inr (.inr (.inr (.inl ⟨h, p, rfl, hp, rfl⟩)))⟩
  case m1Packet h bytes ts =>
    obtain ⟨hq, e⟩ := whenQuiescent_next e
    obtain ⟨p, hp, e⟩ := withParser_next e
    cases e
    exact .inr ⟨hq, .inr (.inr (.inr (.inr (.inl ⟨h, p, bytes, ts, rfl, hp, rfl⟩))))⟩
  case m2Decode words ts protocol =>
    obtain ⟨hq, e⟩ := whenQuiescent_next e
    cases words with
    | nil =>
      cases e
      exact .inl ⟨.decoded none, by simp [State.finish, State.reply, ← hq]⟩
    | cons w ws => cases e; exact .inr ⟨hq, .inr (.inr (.inr (.inr (.inr ⟨w, ws, ts, protocol, rfl, rfl⟩))))⟩
  case packM1 ev =>
    simp only [exec, execPackM1] at e
    cases h : packM1 ev <;> rw [h] at e <;> cases e
    exact .inl ⟨_, rfl⟩
  case packUmp ev protocol =>
    simp only [exec, execPackUmp] at e
    cases h : packUmp protocol ev <;> rw [h] at e <;> cases e
    exact .inl ⟨_, rfl⟩
  case opReservedF => cases e
  case sx7FromBytes => exact .inl (returnOrRaise_next e)
  case bp32Enc => exact .inl (returnOrRaise_next e)
  case u4Check => exact .inl (returnOrRaise_next e)
  case u7Check => exact .inl (returnOrRaise_next e)
  case evMake => exact .inl (returnOrRaise_next e)
  all_goals (cases e; exact .inl ⟨_, rfl⟩)

end Sys2Proof.Machine
end

