-- ==== Sys2Proof/Laws/SysEx.lean ====
section
/-! SUPPORT. What the framing operations do (R121, R190, R200), the chunks of R288, and a packet of SysEx data bytes. -/

namespace Sys2Proof.Machine

/-! ### Manufacturers -/

/-- Parsing what was written gives it back, but for `oneByte(0x00)` (R121). -/
theorem mfrParse_mfrBytes (m : Mfr) (d : List U7) (h : m ≠ .oneByte 0#7) : mfrParse (mfrBytes m ++ d) = some (m, d) := by
  cases m with
  | oneByte b =>
    have : b ≠ 0#7 := fun e => h (by rw [e])
    simp [mfrBytes, mfrParse, this]
  | threeByte a b => simp [mfrBytes, mfrParse]

/-- Writing what was parsed gives it back. -/
theorem mfrBytes_of_mfrParse {l d : List U7} {m : Mfr} (h : mfrParse l = some (m, d)) : mfrBytes m ++ d = l := by
  match l with
  | [] => cases h
  | b :: rest =>
    by_cases hb : b = 0#7
    · subst hb
      match rest, h with
      | [], h => cases h
      | [_], h => cases h
      | b2 :: b3 :: _, h => cases h; rfl
    · have h' : mfrParse (b :: rest) = some (.oneByte b, rest) := by simp [mfrParse, hb]
      cases h'.symm.trans h
      rfl

/-! ### Frames -/

theorem payloadCause_map_byteOf7 (l : List U7) : payloadCause (l.map byteOf7) = none := by
  induction l with
  | nil => rfl
  | cons a l ih => simp [payloadCause, ih]

/-- Bytes below `0x80` before the first bad one do not change the cause. -/
theorem payloadCause_append (pre l : List Byte) (h : ∀ b ∈ pre, b.toNat < 0x80) :
    payloadCause (pre ++ l) = payloadCause l := by
  induction pre with
  | nil => rfl
  | cons a pre ih =>
    have ha : isData a = true := by simpa [isData] using h a (by simp)
    simp only [List.cons_append, payloadCause, ha, if_true]
    exact ih fun b hb => h b (by simp [hb])

theorem dropTerminator_append (l : List Byte) : dropTerminator (l ++ [0xF7#8]) = l := by simp [dropTerminator]

theorem map_low7_map_byteOf7 (l : List U7) : (l.map byteOf7).map low7 = l := by
  induction l with
  | nil => rfl
  | cons a l ih => simp [ih]

/-- A frame of 7-bit payload bytes (R200): only the manufacturer can fail. -/
theorem sx7FromBytes_frame (l : List U7) (g : U4) :
    sx7FromBytes ([0xF0#8] ++ l.map byteOf7 ++ [0xF7#8]) g =
      match mfrParse l with
      | some (m, d) => .ok (.sysEx7 m d g)
      | none => .error (.malformedMessage .manufacturerAbsent) := by
  simp only [sx7FromBytes, List.cons_append, List.nil_append, dropTerminator_append, payloadCause_map_byteOf7,
    map_low7_map_byteOf7]
  cases l with
  | nil => rfl
  | cons a l => cases mfrParse (a :: l) <;> simp

/-- `SX_FINISH` (R190): the Event of the buffer, if it has one; `Idle` with an empty buffer. -/
theorem sxFinish_eq (p : Parser) :
    sxFinish p = { p with
      mode := .idle, sxbuf := [],
      out := p.out ++ (match mfrParse p.sxbuf with
        | some (m, d) => [.sysEx7 m d 0#4]
        | none => []) } := by
  simp only [sxFinish, sx7FromBytes_frame, Config.m1Group]
  cases mfrParse p.sxbuf with
  | none => simp [closeSysEx, skip]
  | some x => rfl

/-! ### 7-bit payloads -/

theorem u7FromBytes_map_byteOf7 (l : List U7) : u7FromBytes (l.map byteOf7) = some l := by
  induction l with
  | nil => rfl
  | cons a l ih => simp [u7FromBytes, ih]

theorem map_byteOf7_of_u7FromBytes {l : List Byte} {v : List U7} (h : u7FromBytes l = some v) : l = v.map byteOf7 := by
  induction l generalizing v with
  | nil => cases h; rfl
  | cons a l ih =>
    simp only [u7FromBytes] at h
    split at h
    · rename_i x xs h1 h2
      cases h
      rw [List.map_cons, ← ih h2, u7FromByte_eq_some.1 h1]
    · cases h

theorem payloadCause_of_u7FromBytes_none {l : List Byte} (h : u7FromBytes l = none) : ∃ c, payloadCause l = some c := by
  induction l with
  | nil => cases h
  | cons a l ih =>
    simp only [payloadCause]
    by_cases ha : isData a = true
    · rw [if_pos ha]
      apply ih
      simp only [u7FromBytes, u7FromByte, ha, if_true] at h
      split at h
      · cases h
      · rename_i hh
        cases h2 : u7FromBytes l with
        | none => rfl
        | some vs => exact absurd h2 fun h3 => hh _ _ rfl h3
    · rw [if_neg ha]
      split
      · exact ⟨_, rfl⟩
      · split <;> exact ⟨_, rfl⟩

/-! ### The chunks of R288 -/

theorem chunks6_append (c rest : List U7) (h : c.length = 6) : chunks6 (c ++ rest) = c :: chunks6 rest := by
  match c, h with
  | [_, _, _, _, _, _], _ => rfl

theorem chunks6_short (l : List U7) (h1 : 1 ≤ l.length) (h2 : l.length ≤ 6) : chunks6 l = [l] := by
  match l, h1, h2 with
  | [_], _, _ => rfl
  | [_, _], _, _ => rfl
  | [_, _, _], _, _ => rfl
  | [_, _, _, _], _, _ => rfl
  | [_, _, _, _, _], _, _ => rfl
  | [_, _, _, _, _, _], _, _ => rfl

/-! ### Bytes of a packet -/

theorem m1Bytes_append (params : Params) (a b : List Byte) (p : Parser) :
    m1Bytes params (a ++ b) p = m1Bytes params b (m1Bytes params a p) := by
  induction a generalizing p with
  | nil => rfl
  | cons x a ih => simp [m1Bytes, ih]

/-- Data bytes in `CollectingSysEx` are appended (R188). -/
theorem m1Bytes_collect (params : Params) (l : List U7) (p : Parser) (hm : p.mode = .collectingSysEx) :
    m1Bytes params (l.map byteOf7) p = { p with sxbuf := p.sxbuf ++ l, cur := p.cur + l.length } := by
  induction l generalizing p with
  | nil => simp [m1Bytes]
  | cons a l ih =>
    have ha : (byteOf7 a).toNat < 0x80 := by have := a.isLt; simp; omega
    have hr : ¬ 0xF8 ≤ (byteOf7 a).toNat := by omega
    have h1 : m1Byte params (byteOf7 a) p = { p with sxbuf := p.sxbuf ++ [a], cur := p.cur + 1 } := by
      simp only [m1Byte, hr, ha, hm, if_false, if_true, collect, advance, low7_byteOf7]
    rw [List.map_cons, m1Bytes, h1, ih { p with sxbuf := p.sxbuf ++ [a], cur := p.cur + 1 } hm]
    simp; omega

end Sys2Proof.Machine
end

