-- ==== Sys2Proof/WellFormed.lean ====
section
/-! DEFINITION. Well-formedness of an instruction. The types of `Syntax.lean` already give every field its width; what is left is the
interface contract of R221: a UMP packet has 1 to `UMP_PKT_MAX` = 4 words. The machine does not need it (R222 gives packets outside
the contract a meaning too, and `step` runs them); it is what a host that keeps the contract issues. -/

namespace Sys2Proof

/-- The interface contract on a UMP packet (R221, R222): 1 to 4 words. -/
def umpPacketInContract (words : List Word) : Bool :=
  decide (1 ≤ words.length) && decide (words.length ≤ Config.umpPktMax)

/-- An instruction whose operands keep the interface contract. -/
def Instr.wellFormed : Instr → Bool
  | .m2Decode words _ _ => umpPacketInContract words
  | .data _ | .noteOff _ | .noteOn _ | .polyPressure _ | .controlChange _ | .programChange _ | .channelPressure _
  | .pitchBend _ | .sox | .mtcQf | .songPos | .songSel | .undefF4 | .undefF5 | .tuneReq | .eox | .clock | .undefF9
  | .start | .continue_ | .stop | .undefFD | .activeSense | .sysReset | .umpMtcQf _ _ _ | .umpSongPos _ _ _
  | .umpSongSel _ _ _ | .umpTuneReq _ _ _ | .umpClock _ _ _ | .umpStart _ _ _ | .umpContinue _ _ _ | .umpStop _ _ _
  | .umpActiveSense _ _ _ | .umpSysReset _ _ _ | .sys1Unrec00_7F _ _ _ _ | .sys1Unrec80_BF _ _ _ _
  | .sys1UnrecC0_DF _ _ _ _ | .sys1UnrecE0_EF _ _ _ _ | .sys1UnrecF0 _ _ _ | .sys1UnrecF4 _ _ _ | .sys1UnrecF5 _ _ _
  | .sys1UnrecF7 _ _ _ | .sys1UnrecF9 _ _ _ | .sys1UnrecFD _ _ _ | .umpNoteOff _ _ _ _ | .umpNoteOn _ _ _ _
  | .umpPolyPressure _ _ _ _ | .umpControlChange _ _ _ _ | .umpProgramChange _ _ _ _ | .umpChannelPressure _ _ _ _
  | .umpPitchBend _ _ _ _ | .cv1Unrec0_7 _ _ _ _ _ | .cv1UnrecF _ _ _ _ | .sx7Complete _ _ _ _ | .sx7Start _ _ _ _
  | .sx7Continue _ _ _ _ | .sx7End _ _ _ _ | .sx7Reserved4_7 _ _ _ _ _ | .sx7Reserved8_F _ _ _ _ _
  | .m2RegPnCtrl _ _ _ _ | .m2AsgPnCtrl _ _ _ _ | .m2RegCtrl _ _ _ _ | .m2AsgCtrl _ _ _ _ | .m2RelRegCtrl _ _ _ _
  | .m2RelAsgCtrl _ _ _ _ | .m2PnPitchBend _ _ _ _ | .m2Reserved7 _ _ _ _ | .m2NoteOff _ _ _ _ | .m2NoteOn _ _ _ _
  | .m2PolyPressure _ _ _ _ | .m2ControlChange _ _ _ _ | .m2ProgramChange _ _ _ _ | .m2ChannelPressure _ _ _ _
  | .m2PitchBend _ _ _ _ | .m2PnManagement _ _ _ _ | .d128 _ _ | .unrecMt0 _ _ | .unrecMt6 _ _ | .unrecMt7 _ _
  | .unrecMt8 _ _ | .unrecMt9 _ _ | .unrecMtA _ _ | .unrecMtB _ _ | .unrecMtC _ _ | .unrecMtD _ _ | .unrecMtE _ _
  | .unrecMtF _ _ | .m1Reset _ _ | .cfgWrite _ _ | .m1Packet _ _ _ | .sx7FromBytes _ _ | .packM1 _ | .packUmp _ _
  | .bp32Enc _ | .bp32Dec _ | .u4Check _ | .u7Check _ | .mfrValid _ | .evMake _ | .evEq _ _ | .m1Abandon _
  | .opReservedF => true

end Sys2Proof
end

