-- ==== Sys2Proof/Tests/Slice0.lean ====
section
/-! SUPPORT. Tests of the model against words and results written out from the spec (the tables of `30_encoding.md`, the examples of its rules
and the vectors of `95_test_vectors.md`, named V<n> and S<n> below), and a witness for the hypotheses of each statement. -/

namespace Sys2Proof.Tests

open Sys2Proof Sys2Proof.Machine

/-! ### Helpers -/

/-- The block inside an `M1.PACKET` on its one instance. -/
def inPacket (p : Parser) (pkt : List Byte) : State := { State.reset with parsers := [some p], phase := .packet 0 pkt }

/-- The block inside an `M2.DECODE`. -/
def inGroup (ws : List Word) : State := { State.reset with phase := .group ws }

/-- The block with one operation issued. -/
def issued (r : Request) : State := { State.reset with requests := [r] }

/-- A fresh instance. -/
def fresh : Parser := Parser.fresh true

/-- The instance after a step. -/
def parserAfter : Result → Option Parser
  | .next t => t.parser? 0
  | _ => none

/-- The last outcome after a step. -/
def outcome : Result → Option Reply
  | .next t => t.replies.getLast?
  | _ => none

/-- Why a step stops. -/
def refusal : Result → Option Refusal
  | .refused r => some r
  | _ => none

/-- The fault of a step. -/
def fault : Result → Option Fault
  | .fault f => some f
  | _ => none

/-- The state after a step. -/
def after : Result → Option State
  | .next t => some t
  | _ => none

/-- One step on a byte: the instance after it. -/
def byteStep (p : Parser) (b : Byte) : Option Parser := parserAfter (step (inPacket p [b]))

/-- One step on a word packet: its outcome. -/
def wordStep (ws : List Word) : Option Reply := outcome (step (inGroup ws))

/-- One step on an operation: its outcome. -/
def opStep (i : Instr) : Option Reply := outcome (exec i State.reset)

/-! ### Well-formedness: packets outside the interface contract are refused -/

/-- R221: a packet of 0 words and one of 5 words are outside the contract; 1 and 4 words are in it. -/
theorem test_wf_decode :
    (Instr.m2Decode [] 0#64 .p2_0).wellFormed = false ∧
    (Instr.m2Decode [0#32, 0#32, 0#32, 0#32, 0#32] 0#64 .p2_0).wellFormed = false ∧
    (Instr.m2Decode [0#32] 0#64 .p2_0).wellFormed = true ∧
    (Instr.m2Decode [0#32, 0#32, 0#32, 0#32] 0#64 .p1_0).wellFormed = true := by decide

/-! ### Decoding: a word for every row, written out from the tables of `30_encoding.md` -/

/-- R63, R64, R66. -/
theorem test_decode_bytes_channel :
    decode (.byte 0x41#8) = .data 0x41#7 ∧
    decode (.byte 0x83#8) = .noteOff 3#4 ∧
    decode (.byte 0x95#8) = .noteOn 5#4 ∧
    decode (.byte 0xA0#8) = .polyPressure 0#4 ∧
    decode (.byte 0xBF#8) = .controlChange 15#4 ∧
    decode (.byte 0xC7#8) = .programChange 7#4 ∧
    decode (.byte 0xD1#8) = .channelPressure 1#4 ∧
    decode (.byte 0xEE#8) = .pitchBend 14#4 ∧
    decode (.byte 0xF0#8) = .sox ∧
    decode (.byte 0xF1#8) = .mtcQf ∧
    decode (.byte 0xF2#8) = .songPos ∧
    decode (.byte 0xF3#8) = .songSel := by decide

/-- R64, R65. -/
theorem test_decode_bytes_system :
    decode (.byte 0xF4#8) = .undefF4 ∧
    decode (.byte 0xF5#8) = .undefF5 ∧
    decode (.byte 0xF6#8) = .tuneReq ∧
    decode (.byte 0xF7#8) = .eox ∧
    decode (.byte 0xF8#8) = .clock ∧
    decode (.byte 0xF9#8) = .undefF9 ∧
    decode (.byte 0xFA#8) = .start ∧
    decode (.byte 0xFB#8) = .continue_ ∧
    decode (.byte 0xFC#8) = .stop ∧
    decode (.byte 0xFD#8) = .undefFD ∧
    decode (.byte 0xFE#8) = .activeSense ∧
    decode (.byte 0xFF#8) = .sysReset := by decide

/-- R70, R72. -/
theorem test_decode_sys1 :
    decode (.word 0x15F11234#32) = .umpMtcQf 5#4 0x12#8 0x34#8 ∧
    decode (.word 0x15F21234#32) = .umpSongPos 5#4 0x12#8 0x34#8 ∧
    decode (.word 0x15F31234#32) = .umpSongSel 5#4 0x12#8 0x34#8 ∧
    decode (.word 0x15F61234#32) = .umpTuneReq 5#4 0x12#8 0x34#8 ∧
    decode (.word 0x15F81234#32) = .umpClock 5#4 0x12#8 0x34#8 ∧
    decode (.word 0x15FA1234#32) = .umpStart 5#4 0x12#8 0x34#8 ∧
    decode (.word 0x15FB1234#32) = .umpContinue 5#4 0x12#8 0x34#8 ∧
    decode (.word 0x15FC1234#32) = .umpStop 5#4 0x12#8 0x34#8 ∧
    decode (.word 0x15FE1234#32) = .umpActiveSense 5#4 0x12#8 0x34#8 ∧
    decode (.word 0x15FF1234#32) = .umpSysReset 5#4 0x12#8 0x34#8 := by decide

/-- R70, R72, R84: the free bits of each range. -/
theorem test_decode_sys1_unrecognized :
    decode (.word 0x15F01234#32) = .sys1UnrecF0 5#4 0x12#8 0x34#8 ∧
    decode (.word 0x15F41234#32) = .sys1UnrecF4 5#4 0x12#8 0x34#8 ∧
    decode (.word 0x15F51234#32) = .sys1UnrecF5 5#4 0x12#8 0x34#8 ∧
    decode (.word 0x15F71234#32) = .sys1UnrecF7 5#4 0x12#8 0x34#8 ∧
    decode (.word 0x15F91234#32) = .sys1UnrecF9 5#4 0x12#8 0x34#8 ∧
    decode (.word 0x15FD1234#32) = .sys1UnrecFD 5#4 0x12#8 0x34#8 ∧
    decode (.word 0x157A1234#32) = .sys1Unrec00_7F 5#4 0x7A#7 0x12#8 0x34#8 ∧
    decode (.word 0x15BA1234#32) = .sys1Unrec80_BF 5#4 0x3A#6 0x12#8 0x34#8 ∧
    decode (.word 0x15DA1234#32) = .sys1UnrecC0_DF 5#4 0x1A#5 0x12#8 0x34#8 ∧
    decode (.word 0x15EA1234#32) = .sys1UnrecE0_EF 5#4 0xA#4 0x12#8 0x34#8 := by decide

/-- R70, R73. -/
theorem test_decode_cv1 :
    decode (.word 0x238A3C40#32) = .umpNoteOff 3#4 10#4 0x3C#8 0x40#8 ∧
    decode (.word 0x239A3C40#32) = .umpNoteOn 3#4 10#4 0x3C#8 0x40#8 ∧
    decode (.word 0x23AA3C40#32) = .umpPolyPressure 3#4 10#4 0x3C#8 0x40#8 ∧
    decode (.word 0x23BA3C40#32) = .umpControlChange 3#4 10#4 0x3C#8 0x40#8 ∧
    decode (.word 0x23CA3C40#32) = .umpProgramChange 3#4 10#4 0x3C#8 0x40#8 ∧
    decode (.word 0x23DA3C40#32) = .umpChannelPressure 3#4 10#4 0x3C#8 0x40#8 ∧
    decode (.word 0x23EA3C40#32) = .umpPitchBend 3#4 10#4 0x3C#8 0x40#8 ∧
    decode (.word 0x23FA3C40#32) = .cv1UnrecF 3#4 10#4 0x3C#8 0x40#8 ∧
    decode (.word 0x235A3C40#32) = .cv1Unrec0_7 3#4 5#3 10#4 0x3C#8 0x40#8 := by decide

/-- R70, R74. -/
theorem test_decode_sx7 :
    decode (.word 0x35064101#32) = .sx7Complete 5#4 6#4 0x41#8 0x01#8 ∧
    decode (.word 0x35164101#32) = .sx7Start 5#4 6#4 0x41#8 0x01#8 ∧
    decode (.word 0x35264101#32) = .sx7Continue 5#4 6#4 0x41#8 0x01#8 ∧
    decode (.word 0x35364101#32) = .sx7End 5#4 6#4 0x41#8 0x01#8 ∧
    decode (.word 0x35664101#32) = .sx7Reserved4_7 5#4 2#2 6#4 0x41#8 0x01#8 ∧
    decode (.word 0x35D64101#32) = .sx7Reserved8_F 5#4 5#3 6#4 0x41#8 0x01#8 := by decide

/-- R70, R75, R76. -/
theorem test_decode_cv2 :
    decode (.word 0x4C023C07#32) = .m2RegPnCtrl 12#4 2#4 0x3C#8 0x07#8 ∧
    decode (.word 0x4C123C07#32) = .m2AsgPnCtrl 12#4 2#4 0x3C#8 0x07#8 ∧
    decode (.word 0x4C223C07#32) = .m2RegCtrl 12#4 2#4 0x3C#8 0x07#8 ∧
    decode (.word 0x4C323C07#32) = .m2AsgCtrl 12#4 2#4 0x3C#8 0x07#8 ∧
    decode (.word 0x4C423C07#32) = .m2RelRegCtrl 12#4 2#4 0x3C#8 0x07#8 ∧
    decode (.word 0x4C523C07#32) = .m2RelAsgCtrl 12#4 2#4 0x3C#8 0x07#8 ∧
    decode (.word 0x4C623C07#32) = .m2PnPitchBend 12#4 2#4 0x3C#8 0x07#8 ∧
    decode (.word 0x4C723C07#32) = .m2Reserved7 12#4 2#4 0x3C#8 0x07#8 ∧
    decode (.word 0x4C823C07#32) = .m2NoteOff 12#4 2#4 0x3C#8 0x07#8 ∧
    decode (.word 0x4C923C07#32) = .m2NoteOn 12#4 2#4 0x3C#8 0x07#8 ∧
    decode (.word 0x4CA23C07#32) = .m2PolyPressure 12#4 2#4 0x3C#8 0x07#8 ∧
    decode (.word 0x4CB23C07#32) = .m2ControlChange 12#4 2#4 0x3C#8 0x07#8 ∧
    decode (.word 0x4CC23C07#32) = .m2ProgramChange 12#4 2#4 0x3C#8 0x07#8 ∧
    decode (.word 0x4CD23C07#32) = .m2ChannelPressure 12#4 2#4 0x3C#8 0x07#8 ∧
    decode (.word 0x4CE23C07#32) = .m2PitchBend 12#4 2#4 0x3C#8 0x07#8 ∧
    decode (.word 0x4CF23C07#32) = .m2PnManagement 12#4 2#4 0x3C#8 0x07#8 := by decide

/-- R70, R71, R80. -/
theorem test_decode_types :
    decode (.word 0x59ABCDEF#32) = .d128 9#4 0xABCDEF#24 ∧
    decode (.word 0x09ABCDEF#32) = .unrecMt0 9#4 0xABCDEF#24 ∧
    decode (.word 0x69ABCDEF#32) = .unrecMt6 9#4 0xABCDEF#24 ∧
    decode (.word 0x79ABCDEF#32) = .unrecMt7 9#4 0xABCDEF#24 ∧
    decode (.word 0x89ABCDEF#32) = .unrecMt8 9#4 0xABCDEF#24 ∧
    decode (.word 0x99ABCDEF#32) = .unrecMt9 9#4 0xABCDEF#24 ∧
    decode (.word 0xA9ABCDEF#32) = .unrecMtA 9#4 0xABCDEF#24 ∧
    decode (.word 0xB9ABCDEF#32) = .unrecMtB 9#4 0xABCDEF#24 ∧
    decode (.word 0xC9ABCDEF#32) = .unrecMtC 9#4 0xABCDEF#24 ∧
    decode (.word 0xD9ABCDEF#32) = .unrecMtD 9#4 0xABCDEF#24 ∧
    decode (.word 0xE9ABCDEF#32) = .unrecMtE 9#4 0xABCDEF#24 ∧
    decode (.word 0xF9ABCDEF#32) = .unrecMtF 9#4 0xABCDEF#24 := by decide

/-- R81, with the operands of its table on their ports. -/
theorem test_decode_operations :
    decode (.op ⟨0x0#4, { Ports.zero with target := some 2, noz := some false }⟩) = .m1Reset (some 2) (some false) ∧
    decode (.op ⟨0x1#4, { Ports.zero with inst := 3, flag := true }⟩) = .cfgWrite 3 true ∧
    decode (.op ⟨0x2#4, { Ports.zero with inst := 1, bytes := [0x90#8], timestamp := 5#64 }⟩) = .m1Packet 1 [0x90#8] 5#64 ∧
    decode (.op ⟨0x3#4, { Ports.zero with bytes := [0xF0#8], group := some 5#4 }⟩) = .sx7FromBytes [0xF0#8] (some 5#4) ∧
    decode (.op ⟨0x4#4, { Ports.zero with words := [1#32], timestamp := 7#64, protocol := .p2_0 }⟩) = .m2Decode [1#32] 7#64 .p2_0 ∧
    decode (.op ⟨0x5#4, { Ports.zero with event := .start 2#4 }⟩) = .packM1 (.start 2#4) ∧
    decode (.op ⟨0x6#4, { Ports.zero with event := .stop 2#4, protocol := .p2_0 }⟩) = .packUmp (.stop 2#4) .p2_0 ∧
    decode (.op ⟨0x7#4, { Ports.zero with value := .nan }⟩) = .bp32Enc .nan ∧
    decode (.op ⟨0x8#4, { Ports.zero with raw := 9#32 }⟩) = .bp32Dec 9#32 ∧
    decode (.op ⟨0x9#4, { Ports.zero with int := -4 }⟩) = .u4Check (-4) ∧
    decode (.op ⟨0xA#4, { Ports.zero with int := 300 }⟩) = .u7Check 300 ∧
    decode (.op ⟨0xB#4, { Ports.zero with mfr := .oneByte 0x41#7 }⟩) = .mfrValid (.oneByte 0x41#7) ∧
    decode (.op ⟨0xC#4, { Ports.zero with rawEvent := .start (some 3) }⟩) = .evMake (.start (some 3)) ∧
    decode (.op ⟨0xD#4, { Ports.zero with event := .start 1#4, event2 := .stop 1#4 }⟩) = .evEq (.start 1#4) (.stop 1#4) ∧
    decode (.op ⟨0xE#4, { Ports.zero with inst := 6 }⟩) = .m1Abandon 6 ∧
    decode (.op ⟨0xF#4, { Ports.zero with inst := 6 }⟩) = .opReservedF := by decide

/-- Numbers of the table's widths, and numbers that are none (log 9). -/
theorem test_table_word :
    decodeTableWord 32 0x20903C40 = some (.umpNoteOn 0#4 0#4 0x3C#8 0x40#8) ∧
    decodeTableWord 8 0x95 = some (.noteOn 5#4) ∧
    decodeTableWord 8 0x0E = some (.m1Abandon 0) ∧
    decodeTableWord 16 0x95 = none ∧
    decodeTableWord 8 0x195 = none := by decide

/-- R84. -/
theorem test_table_size :
    opcodeTable.length = 103 := by decide

/-! ### One byte of a MIDI 1.0 packet -/

/-- R169: the status byte sets `PEND` and `RS` and emits nothing. -/
theorem test_channel_status :
    byteStep fresh 0x85#8 = some { fresh with pend := some ⟨0x85#8, []⟩, rs := some 0x85#8, cur := 1 } ∧
    byteStep fresh 0x95#8 = some { fresh with pend := some ⟨0x95#8, []⟩, rs := some 0x95#8, cur := 1 } ∧
    byteStep fresh 0xA5#8 = some { fresh with pend := some ⟨0xA5#8, []⟩, rs := some 0xA5#8, cur := 1 } ∧
    byteStep fresh 0xB5#8 = some { fresh with pend := some ⟨0xB5#8, []⟩, rs := some 0xB5#8, cur := 1 } ∧
    byteStep fresh 0xC5#8 = some { fresh with pend := some ⟨0xC5#8, []⟩, rs := some 0xC5#8, cur := 1 } ∧
    byteStep fresh 0xD5#8 = some { fresh with pend := some ⟨0xD5#8, []⟩, rs := some 0xD5#8, cur := 1 } ∧
    byteStep fresh 0xE5#8 = some { fresh with pend := some ⟨0xE5#8, []⟩, rs := some 0xE5#8, cur := 1 } := by decide

/-- The last data byte of V69, V70, V72 to V75, V77 and V81. -/
theorem test_channel_messages :
    byteStep { fresh with pend := some ⟨0x81#8, [0x3C#7]⟩, rs := some 0x81#8 } 0x7F#8 = some { fresh with rs := some 0x81#8, out := [.noteOff 60#7 127#7 1#4 0#4], cur := 1 } ∧
    byteStep { fresh with pend := some ⟨0x90#8, [0x3C#7]⟩, rs := some 0x90#8 } 0x40#8 = some { fresh with rs := some 0x90#8, out := [.noteOn 60#7 64#7 0#4 0#4], cur := 1 } ∧
    byteStep { fresh with pend := some ⟨0x90#8, [0x3C#7]⟩, rs := some 0x90#8 } 0x00#8 = some { fresh with rs := some 0x90#8, out := [.noteOff 60#7 0#7 0#4 0#4], cur := 1 } ∧
    byteStep { fresh with pend := some ⟨0xA0#8, [0x3C#7]⟩, rs := some 0xA0#8 } 0x50#8 = some { fresh with rs := some 0xA0#8, out := [.notePressure 60#7 80#7 0#4 0#4], cur := 1 } ∧
    byteStep { fresh with pend := some ⟨0xB3#8, [0x07#7]⟩, rs := some 0xB3#8 } 0x64#8 = some { fresh with rs := some 0xB3#8, out := [.cc 7#7 100#7 3#4 0#4], cur := 1 } ∧
    byteStep { fresh with pend := some ⟨0xC5#8, []⟩, rs := some 0xC5#8 } 0x07#8 = some { fresh with rs := some 0xC5#8, out := [.programChange 7#7 5#4 0#4], cur := 1 } ∧
    byteStep { fresh with pend := some ⟨0xDF#8, []⟩, rs := some 0xDF#8 } 0x7F#8 = some { fresh with rs := some 0xDF#8, out := [.pressure 127#7 15#4 0#4], cur := 1 } ∧
    byteStep { fresh with pend := some ⟨0xE1#8, [0x01#7]⟩, rs := some 0xE1#8 } 0x40#8 = some { fresh with rs := some 0xE1#8, out := [.pitchBend 8193#14 1#4 0#4], cur := 1 } := by decide

/-- V72 with `CFG.NOZ` = 0. -/
theorem test_note_on_zero_kept :
    byteStep { Parser.fresh false with pend := some ⟨0x90#8, [0x3C#7]⟩, rs := some 0x90#8 } 0x00#8 = some { Parser.fresh false with rs := some 0x90#8, out := [.noteOn 60#7 0#7 0#4 0#4], cur := 1 } := by decide

/-- V88 (an orphan), V89 and V76 (running status). -/
theorem test_data_orphan_and_running :
    byteStep fresh 0x3C#8 = some { fresh with cur := 1 } ∧
    byteStep { fresh with rs := some 0x90#8 } 0x3E#8 = some { fresh with rs := some 0x90#8, pend := some ⟨0x90#8, [0x3E#7]⟩, cur := 1 } ∧
    byteStep { fresh with rs := some 0xC5#8 } 0x08#8 = some { fresh with rs := some 0xC5#8, out := [.programChange 8#7 5#4 0#4], cur := 1 } := by decide

/-- R179 to R186: every system-common byte cancels running status and the unfinished message (V93, V97, V98, V118). -/
theorem test_system_common :
    byteStep { fresh with rs := some 0x90#8, pend := some ⟨0x90#8, [0x3C#7]⟩ } 0xF0#8 = some { fresh with mode := .collectingSysEx, cur := 1 } ∧
    byteStep { fresh with rs := some 0x90#8, pend := some ⟨0x90#8, [0x3C#7]⟩ } 0xF1#8 = some { fresh with pend := some ⟨0xF1#8, []⟩, cur := 1 } ∧
    byteStep { fresh with rs := some 0x90#8, pend := some ⟨0x90#8, [0x3C#7]⟩ } 0xF2#8 = some { fresh with pend := some ⟨0xF2#8, []⟩, cur := 1 } ∧
    byteStep { fresh with rs := some 0x90#8, pend := some ⟨0x90#8, [0x3C#7]⟩ } 0xF3#8 = some { fresh with pend := some ⟨0xF3#8, []⟩, cur := 1 } ∧
    byteStep { fresh with rs := some 0x90#8, pend := some ⟨0x90#8, [0x3C#7]⟩ } 0xF4#8 = some { fresh with cur := 1 } ∧
    byteStep { fresh with rs := some 0x90#8, pend := some ⟨0x90#8, [0x3C#7]⟩ } 0xF5#8 = some { fresh with cur := 1 } ∧
    byteStep { fresh with rs := some 0x90#8, pend := some ⟨0x90#8, [0x3C#7]⟩ } 0xF7#8 = some { fresh with cur := 1 } ∧
    byteStep { fresh with rs := some 0x90#8, pend := some ⟨0x90#8, [0x3C#7]⟩ } 0xF6#8 = some { fresh with out := [.tuneRequest 0#4], cur := 1 } := by decide

/-- V82 to V84. -/
theorem test_system_messages :
    byteStep { fresh with pend := some ⟨0xF1#8, []⟩ } 0x23#8 = some { fresh with out := [.timecodeQuarterFrame 0x23#7 0#4], cur := 1 } ∧
    byteStep { fresh with pend := some ⟨0xF2#8, [0x08#7]⟩ } 0x01#8 = some { fresh with out := [.songPositionPointer 136#14 0#4], cur := 1 } ∧
    byteStep { fresh with pend := some ⟨0xF3#8, []⟩ } 0x05#8 = some { fresh with out := [.songSelect 5#7 0#4], cur := 1 } := by decide

/-- R191 to R199 inside a channel message (V86, V94, V95). -/
theorem test_real_time :
    byteStep { fresh with rs := some 0x90#8, pend := some ⟨0x90#8, [0x3C#7]⟩ } 0xF8#8 = some { fresh with rs := some 0x90#8, pend := some ⟨0x90#8, [0x3C#7]⟩, out := [.timingClock 0#4], cur := 1 } ∧
    byteStep { fresh with rs := some 0x90#8, pend := some ⟨0x90#8, [0x3C#7]⟩ } 0xF9#8 = some { fresh with rs := some 0x90#8, pend := some ⟨0x90#8, [0x3C#7]⟩, out := [], cur := 1 } ∧
    byteStep { fresh with rs := some 0x90#8, pend := some ⟨0x90#8, [0x3C#7]⟩ } 0xFA#8 = some { fresh with rs := some 0x90#8, pend := some ⟨0x90#8, [0x3C#7]⟩, out := [.start 0#4], cur := 1 } ∧
    byteStep { fresh with rs := some 0x90#8, pend := some ⟨0x90#8, [0x3C#7]⟩ } 0xFB#8 = some { fresh with rs := some 0x90#8, pend := some ⟨0x90#8, [0x3C#7]⟩, out := [.continue_ 0#4], cur := 1 } ∧
    byteStep { fresh with rs := some 0x90#8, pend := some ⟨0x90#8, [0x3C#7]⟩ } 0xFC#8 = some { fresh with rs := some 0x90#8, pend := some ⟨0x90#8, [0x3C#7]⟩, out := [.stop 0#4], cur := 1 } ∧
    byteStep { fresh with rs := some 0x90#8, pend := some ⟨0x90#8, [0x3C#7]⟩ } 0xFD#8 = some { fresh with rs := some 0x90#8, pend := some ⟨0x90#8, [0x3C#7]⟩, out := [], cur := 1 } ∧
    byteStep { fresh with rs := some 0x90#8, pend := some ⟨0x90#8, [0x3C#7]⟩ } 0xFE#8 = some { fresh with rs := some 0x90#8, pend := some ⟨0x90#8, [0x3C#7]⟩, out := [.activeSensing 0#4], cur := 1 } ∧
    byteStep { fresh with rs := some 0x90#8, pend := some ⟨0x90#8, [0x3C#7]⟩ } 0xFF#8 = some { fresh with rs := some 0x90#8, pend := some ⟨0x90#8, [0x3C#7]⟩, out := [.systemReset 0#4], cur := 1 } := by decide

/-- V101, V103, V105, V107, V109, V111. -/
theorem test_sysex_bytes :
    byteStep { fresh with mode := .collectingSysEx, sxbuf := [0x41#7] } 0x01#8 = some { fresh with mode := .collectingSysEx, sxbuf := [0x41#7, 0x01#7], cur := 1 } ∧
    byteStep { fresh with mode := .collectingSysEx, sxbuf := [0x41#7] } 0xFF#8 = some { fresh with mode := .collectingSysEx, sxbuf := [0x41#7], out := [.systemReset 0#4], cur := 1 } ∧
    byteStep { fresh with mode := .collectingSysEx, sxbuf := [0x41#7, 0x01#7, 0x34#7] } 0xF7#8 = some { fresh with out := [.sysEx7 (.oneByte 0x41#7) [0x01#7, 0x34#7] 0#4], cur := 1 } ∧
    byteStep { fresh with mode := .collectingSysEx, sxbuf := [0x00#7, 0x20#7, 0x33#7] } 0xF7#8 = some { fresh with out := [.sysEx7 (.threeByte 0x20#7 0x33#7) [] 0#4], cur := 1 } ∧
    byteStep { fresh with mode := .collectingSysEx, sxbuf := [0x00#7, 0x20#7] } 0xF7#8 = some { fresh with cur := 1 } ∧
    byteStep { fresh with mode := .collectingSysEx, sxbuf := [] } 0xF7#8 = some { fresh with cur := 1 } := by decide

/-- V113 to V116. -/
theorem test_sysex_ended_by_status :
    byteStep { fresh with mode := .collectingSysEx, sxbuf := [0x41#7, 0x01#7] } 0x90#8 = some { fresh with rs := some 0x90#8, pend := some ⟨0x90#8, []⟩, out := [.sysEx7 (.oneByte 0x41#7) [0x01#7] 0#4], cur := 1 } ∧
    byteStep { fresh with mode := .collectingSysEx, sxbuf := [0x41#7, 0x01#7] } 0xF0#8 = some { fresh with mode := .collectingSysEx, out := [.sysEx7 (.oneByte 0x41#7) [0x01#7] 0#4], cur := 1 } ∧
    byteStep { fresh with mode := .collectingSysEx, sxbuf := [0x41#7, 0x01#7] } 0xF6#8 = some { fresh with out := [.sysEx7 (.oneByte 0x41#7) [0x01#7] 0#4, .tuneRequest 0#4], cur := 1 } ∧
    byteStep { fresh with mode := .collectingSysEx, sxbuf := [] } 0x90#8 = some { fresh with rs := some 0x90#8, pend := some ⟨0x90#8, []⟩, cur := 1 } := by decide

/-- V91. -/
theorem test_packet_end :
    outcome (step (inPacket { fresh with pend := some ⟨0x90#8, [0x3C#7]⟩, rs := some 0x90#8, out := [.start 0#4], cur := 2 } [0x90#8, 0x3C#8])) = some (.events [.start 0#4]) ∧
    parserAfter (step (inPacket { fresh with pend := some ⟨0x90#8, [0x3C#7]⟩, rs := some 0x90#8, cur := 2 } [0x90#8, 0x3C#8])) = some { fresh with rs := some 0x90#8, cur := 2 } := by decide

/-! ### One UMP packet -/

/-- V139 to V143. -/
theorem test_ump_system :
    wordStep [0x10F12300#32] = some (.decoded (some (.timecodeQuarterFrame 0x23#7 0#4))) ∧
    wordStep [0x15F20801#32] = some (.decoded (some (.songPositionPointer 136#14 5#4))) ∧
    wordStep [0x10F30500#32] = some (.decoded (some (.songSelect 5#7 0#4))) ∧
    wordStep [0x10F60080#32] = some (.decoded (some (.tuneRequest 0#4))) ∧
    wordStep [0x10F80000#32] = some (.decoded (some (.timingClock 0#4))) ∧
    wordStep [0x12FA0000#32] = some (.decoded (some (.start 2#4))) ∧
    wordStep [0x10FB0000#32] = some (.decoded (some (.continue_ 0#4))) ∧
    wordStep [0x10FC0000#32] = some (.decoded (some (.stop 0#4))) ∧
    wordStep [0x10FE0000#32] = some (.decoded (some (.activeSensing 0#4))) ∧
    wordStep [0x1FFF0000#32] = some (.decoded (some (.systemReset 15#4))) := by decide

/-- V144, V145; R236. -/
theorem test_ump_system_skipped :
    wordStep [0x10000000#32] = some (.decoded none) ∧
    wordStep [0x10900000#32] = some (.decoded none) ∧
    wordStep [0x10C00000#32] = some (.decoded none) ∧
    wordStep [0x10E00000#32] = some (.decoded none) ∧
    wordStep [0x10F00000#32] = some (.decoded none) ∧
    wordStep [0x10F40000#32] = some (.decoded none) ∧
    wordStep [0x10F50000#32] = some (.decoded none) ∧
    wordStep [0x10F70000#32] = some (.decoded none) ∧
    wordStep [0x10F90000#32] = some (.decoded none) ∧
    wordStep [0x10FD0000#32] = some (.decoded none) ∧
    wordStep [0x10F28001#32] = some (.decoded none) ∧
    wordStep [0x10F20880#32] = some (.decoded none) := by decide

/-- V147, V149 to V151. -/
theorem test_ump_midi1 :
    wordStep [0x20813C7F#32] = some (.decoded (some (.noteOff 60#7 127#7 1#4 0#4))) ∧
    wordStep [0x20903C00#32] = some (.decoded (some (.noteOn 60#7 0#7 0#4 0#4))) ∧
    wordStep [0x20A03C50#32] = some (.decoded (some (.notePressure 60#7 80#7 0#4 0#4))) ∧
    wordStep [0x23B30764#32] = some (.decoded (some (.cc 7#7 100#7 3#4 3#4))) ∧
    wordStep [0x20C50780#32] = some (.decoded (some (.programChange 7#7 5#4 0#4))) ∧
    wordStep [0x20DF7F00#32] = some (.decoded (some (.pressure 127#7 15#4 0#4))) ∧
    wordStep [0x2FE10140#32] = some (.decoded (some (.pitchBend 8193#14 1#4 15#4))) := by decide

/-- V152, V153. -/
theorem test_ump_midi1_skipped :
    wordStep [0x20903C80#32] = some (.decoded none) ∧
    wordStep [0x2090803C#32] = some (.decoded none) ∧
    wordStep [0x20E10180#32] = some (.decoded none) ∧
    wordStep [0x20703C40#32] = some (.decoded none) ∧
    wordStep [0x20F03C40#32] = some (.decoded none) := by decide

/-- V154, V156, V160, V162, V164, V165. -/
theorem test_ump_sysex :
    wordStep [0x30034101#32, 0x34000000#32] = some (.decoded (some (.sysEx7 (.oneByte 0x41#7) [0x01#7, 0x34#7] 0#4))) ∧
    wordStep [0x35060020#32, 0x33010203#32] = some (.decoded (some (.sysEx7 (.threeByte 0x20#7 0x33#7) [1#7, 2#7, 3#7] 5#4))) ∧
    wordStep [0x30024101#32, 0x81000000#32] = some (.decoded (some (.sysEx7 (.oneByte 0x41#7) [0x01#7] 0#4))) ∧
    wordStep [0x30024181#32, 0x34000000#32] = some (.decoded none) ∧
    wordStep [0x30004101#32, 0x34000000#32] = some (.decoded none) ∧
    wordStep [0x30074101#32, 0x02030405#32] = some (.decoded none) := by decide

/-- V166, V167; R249. -/
theorem test_ump_sysex_skipped :
    wordStep [0x30164101#32, 0x02030405#32] = some (.decoded none) ∧
    wordStep [0x30260607#32, 0x08090A0B#32] = some (.decoded none) ∧
    wordStep [0x30330607#32, 0x08000000#32] = some (.decoded none) ∧
    wordStep [0x30434101#32, 0x34000000#32] = some (.decoded none) ∧
    wordStep [0x30834101#32, 0x34000000#32] = some (.decoded none) := by decide

/-- V168 to V171, V174, V177. -/
theorem test_ump_midi2_controllers :
    wordStep [0x40003C07#32, 0x12345678#32] = some (.decoded (some (.m2RegisteredPerNoteController 60#7 7#8 0x12345678#32 0#4 0#4))) ∧
    wordStep [0x40103CFF#32, 0x00000001#32] = some (.decoded (some (.m2AssignablePerNoteController 60#7 255#8 1#32 0#4 0#4))) ∧
    wordStep [0x40200006#32, 0x80000000#32] = some (.decoded (some (.m2RegisteredController 0#7 6#7 0x80000000#32 0#4 0#4))) ∧
    wordStep [0x41317F7F#32, 0xFFFFFFFF#32] = some (.decoded (some (.m2AssignableController 127#7 127#7 0xFFFFFFFF#32 1#4 1#4))) ∧
    wordStep [0x40400001#32, 0xFFFFFFFF#32] = some (.decoded (some (.m2RelativeRegisteredController 0#7 1#7 0xFFFFFFFF#32 0#4 0#4))) ∧
    wordStep [0x40500001#32, 0x00000010#32] = some (.decoded (some (.m2RelativeAssignableController 0#7 1#7 16#32 0#4 0#4))) ∧
    wordStep [0x40623C00#32, 0xC0000000#32] = some (.decoded (some (.m2PerNotePitchBend 60#7 0xC0000000#32 2#4 0#4))) ∧
    wordStep [0x40703C00#32, 0x00000000#32] = some (.decoded none) := by decide

/-- V178, V179, V182, V187, V189. -/
theorem test_ump_midi2_notes :
    wordStep [0x40803C00#32, 0x80000000#32] = some (.decoded (some (.m2NoteOff 60#7 0x8000#16 0#8 0#16 0#4 0#4))) ∧
    wordStep [0x40903C03#32, 0xFFFF1234#32] = some (.decoded (some (.m2NoteOn 60#7 0xFFFF#16 3#8 0x1234#16 0#4 0#4))) ∧
    wordStep [0x40A03C00#32, 0x40000000#32] = some (.decoded (some (.m2NotePressure 60#7 0x40000000#32 0#4 0#4))) ∧
    wordStep [0x40B30700#32, 0xC8000000#32] = some (.decoded (some (.m2CC 7#7 0xC8000000#32 3#4 0#4))) ∧
    wordStep [0x40D50000#32, 0xFFFFFFFF#32] = some (.decoded (some (.m2Pressure 0xFFFFFFFF#32 5#4 0#4))) ∧
    wordStep [0x40E00000#32, 0x80000000#32] = some (.decoded (some (.m2PitchBend 0x80000000#32 0#4 0#4))) ∧
    wordStep [0x40F03C02#32, 0x00000000#32] = some (.decoded (some (.m2PerNoteManagement 60#7 true false 0#4 0#4))) := by decide

/-- V183, V185, V186. -/
theorem test_ump_midi2_program_change :
    wordStep [0x40C00001#32, 0x05000102#32] = some (.decoded (some (.m2ProgramChange 5#7 (some (1#7, 2#7)) 0#4 0#4))) ∧
    wordStep [0x40C00000#32, 0x05008002#32] = some (.decoded (some (.m2ProgramChange 5#7 none 0#4 0#4))) ∧
    wordStep [0x40C00001#32, 0x05008002#32] = some (.decoded none) ∧
    wordStep [0x40C00000#32, 0x85000102#32] = some (.decoded none) := by decide

/-- V191, V192, V195; R224, R267. -/
theorem test_ump_other_types :
    wordStep [0x00000000#32] = some (.decoded none) ∧
    wordStep [0x60000000#32] = some (.decoded none) ∧
    wordStep [0x70000000#32] = some (.decoded none) ∧
    wordStep [0x80000000#32] = some (.decoded none) ∧
    wordStep [0x90000000#32] = some (.decoded none) ∧
    wordStep [0xA0000000#32] = some (.decoded none) ∧
    wordStep [0xB0000000#32] = some (.decoded none) ∧
    wordStep [0xC0000000#32] = some (.decoded none) ∧
    wordStep [0xD0000000#32] = some (.decoded none) ∧
    wordStep [0xE0000000#32] = some (.decoded none) ∧
    wordStep [0xF0000000#32] = some (.decoded none) ∧
    wordStep [0x50000000#32, 0x00000000#32, 0x00000000#32] = some (.decoded none) ∧
    refusal (step (inGroup [0x50000000#32, 0#32, 0#32, 0#32])) = some .data128NotSpecified := by decide

/-- V192 to V194. -/
theorem test_ump_length :
    wordStep [0x40603C00#32] = some (.decoded none) ∧
    wordStep [0x40603CFF#32, 0x80000000#32, 0xDEADBEEF#32] = some (.decoded (some (.m2PerNotePitchBend 60#7 0x80000000#32 0#4 0#4))) ∧
    wordStep [0x10F80000#32, 0x20903C40#32] = some (.decoded (some (.timingClock 0#4))) := by decide

/-! ### The operations -/

/-- V228, V230. -/
theorem test_reset_operation :
    parserAfter (exec (.m1Reset (some 0) (some false)) { State.reset with parsers := [some { fresh with mode := .collectingSysEx, sxbuf := [0x41#7] }] }) = some (Parser.fresh false) ∧
    opStep (.m1Reset none none) = some (.parser 1) := by decide

/-- V231. -/
theorem test_cfg_write :
    parserAfter (exec (.cfgWrite 0 false) { State.reset with parsers := [some { fresh with mode := .collectingSysEx, sxbuf := [0x41#7] }] }) = some { Parser.fresh false with mode := .collectingSysEx, sxbuf := [0x41#7] } := by decide

/-- V232, R353. -/
theorem test_abandon :
    parserAfter (exec (.m1Abandon 0) State.reset) = none ∧
    opStep (.m1Abandon 0) = some .done ∧
    fault (exec (.m1Abandon 1) State.reset) = some .noSuchParser := by decide

/-- R163 with `RS_SCOPE` = `PACKET`. -/
theorem test_packet_opens :
    parserAfter (exec (.m1Packet 0 [0x40#8] 9#64) { State.reset with parsers := [some { fresh with rs := some 0x90#8, out := [.start 0#4], cur := 3 }] }) = some fresh := by decide

/-- V190, R221. -/
theorem test_m2_decode :
    opStep (.m2Decode [] 0#64 .p2_0) = some (.decoded none) ∧
    after (exec (.m2Decode [0x10F80000#32] 0#64 .p1_0) State.reset) = some (inGroup [0x10F80000#32]) := by decide

/-- S6 to S9, V121, V125, V128, V132. -/
theorem test_sx7_from_bytes :
    opStep (.sx7FromBytes [] none) = some (.error (.malformedMessage .empty)) ∧
    opStep (.sx7FromBytes [0xF0#8] none) = some (.error (.malformedMessage .manufacturerAbsent)) ∧
    opStep (.sx7FromBytes [0xF7#8] none) = some (.error (.malformedMessage .startMissing)) ∧
    opStep (.sx7FromBytes [0xF0#8, 0xF7#8] none) = some (.error (.malformedMessage .manufacturerAbsent)) ∧
    opStep (.sx7FromBytes [0xF0#8, 0x41#8, 0x90#8] none) = some (.error (.malformedMessage .terminatorIncorrect)) ∧
    opStep (.sx7FromBytes [0xF0#8, 0x41#8, 0xF7#8, 0x01#8] none) = some (.error (.malformedMessage .endMisplaced)) ∧
    opStep (.sx7FromBytes [0xF0#8, 0x90#8, 0x41#8, 0xF7#8] none) = some (.error (.malformedMessage .statusInPayload)) ∧
    opStep (.sx7FromBytes [0xF0#8, 0x00#8, 0x20#8, 0xF7#8] none) = some (.error (.malformedMessage .manufacturerAbsent)) := by decide

/-- S12, V133, V137. -/
theorem test_sx7_accepted :
    opStep (.sx7FromBytes [0xF0#8, 0x41#8, 0x01#8, 0x34#8, 0xF7#8] none) = some (.event (.sysEx7 (.oneByte 0x41#7) [0x01#7, 0x34#7] 0#4)) ∧
    opStep (.sx7FromBytes [0xF0#8, 0x00#8, 0x20#8, 0x33#8] none) = some (.event (.sysEx7 (.threeByte 0x20#7 0x33#7) [] 0#4)) ∧
    opStep (.sx7FromBytes [0xF0#8, 0x41#8, 0x01#8] (some 5#4)) = some (.event (.sysEx7 (.oneByte 0x41#7) [0x01#7] 5#4)) := by decide

/-- V199, V201 to V203. -/
theorem test_pack_m1 :
    opStep (.packM1 (.noteOn 60#7 64#7 0#4 7#4)) = some (.bytes [0x90#8, 0x3C#8, 0x40#8]) ∧
    opStep (.packM1 (.pitchBend 8193#14 1#4 0#4)) = some (.bytes [0xE1#8, 0x01#8, 0x40#8]) ∧
    opStep (.packM1 (.sysEx7 (.threeByte 0x20#7 0x33#7) [] 0#4)) = some (.bytes [0xF0#8, 0x00#8, 0x20#8, 0x33#8, 0xF7#8]) ∧
    refusal (exec (.packM1 (.m2Pressure 0#32 0#4 0#4)) State.reset) = some .noMidi1Form := by decide

/-- V205, V206, S13, V211. -/
theorem test_pack_ump :
    opStep (.packUmp (.programChange 7#7 5#4 0#4) .p1_0) = some (.groups [[0x20C50700#32]]) ∧
    opStep (.packUmp (.songPositionPointer 136#14 5#4) .p1_0) = some (.groups [[0x15F20801#32]]) ∧
    opStep (.packUmp (.sysEx7 (.oneByte 0x41#7) [0x01#7, 0x34#7] 0#4) .p2_0) = some (.groups [[0x30034101#32, 0x34000000#32]]) ∧
    opStep (.packUmp (.sysEx7 (.oneByte 0x41#7) [1#7, 2#7, 3#7, 4#7, 5#7, 6#7, 7#7, 8#7, 9#7, 10#7, 11#7, 12#7] 0#4) .p2_0) = some (.groups [[0x30164101#32, 0x02030405#32], [0x30260607#32, 0x08090A0B#32], [0x30310C00#32, 0x00000000#32]]) := by decide

/-- V217, V219, V221, V222. -/
theorem test_pack_ump_midi2 :
    opStep (.packUmp (.m2PerNotePitchBend 60#7 0xC0000000#32 2#4 3#4) .p2_0) = some (.groups [[0x43623C00#32, 0xC0000000#32]]) ∧
    opStep (.packUmp (.m2NoteOn 60#7 0xFFFF#16 3#8 0x1234#16 0#4 0#4) .p2_0) = some (.groups [[0x40903C03#32, 0xFFFF1234#32]]) ∧
    opStep (.packUmp (.m2ProgramChange 5#7 (some (1#7, 2#7)) 0#4 0#4) .p2_0) = some (.groups [[0x40C00001#32, 0x05000102#32]]) ∧
    refusal (exec (.packUmp (.m2Pressure 0#32 0#4 0#4) .p1_0) State.reset) = some .noProtocol1Form := by decide

/-- V11, V12, V17, V19, V21, V24, V27. -/
theorem test_scaler_encode :
    opStep (.bp32Enc (.finite (1 / 2))) = some (.raw 0xC0000000#32) ∧
    opStep (.bp32Enc (.finite (-1 / 2))) = some (.raw 0x40000000#32) ∧
    opStep (.bp32Enc (.finite (1 / 3))) = some (.raw 0xAAAAAAAA#32) ∧
    opStep (.bp32Enc (.finite (2))) = some (.raw 0xFFFFFFFF#32) ∧
    opStep (.bp32Enc (.finite (1 / 4294967294))) = some (.raw 0x80000001#32) ∧
    opStep (.bp32Enc (.finite (-1 / 4294967296))) = some (.raw 0x7FFFFFFF#32) ∧
    opStep (.bp32Enc .negInf) = some (.raw 0#32) := by decide +kernel

/-- V33. -/
theorem test_scaler_nan :
    opStep (.bp32Enc .nan) = some (.error (.outOfRangeValue .bipolar32 none .nan)) := by decide

/-- V40 to V42, V45. -/
theorem test_scaler_decode :
    opStep (.bp32Dec 0x40000000#32) = some (.value (-1 / 2) ⟨true, 1 / 2⟩) ∧
    bp32Decode 0xC0000000#32 = 1073741824 / 2147483647 ∧
    bp32Decode 0x7FFFFFFF#32 = -1 / 2147483648 ∧
    opStep (.bp32Dec 0x80000000#32) = some (.value 0 ⟨false, 0⟩) := by decide +kernel

/-- V35. -/
theorem test_scaler_arithmetics :
    bp32Encode .binary64 (.finite (1 / 2 + 1 / 1073741824)) = .ok 0xC0000002#32 ∧
    bp32Encode .exact (.finite (1 / 2 + 1 / 1073741824)) = .ok 0xC0000001#32 := by decide +kernel

/-- V1 to V4. -/
theorem test_range_checks :
    opStep (.u4Check 15) = some (.uint4 15#4) ∧
    opStep (.u4Check 272) = some (.error (.outOfRangeValue .uint4 none (.int 272))) ∧
    opStep (.u7Check 127) = some (.uint7 127#7) ∧
    opStep (.u7Check (-1)) = some (.error (.outOfRangeValue .uint7 none (.int (-1)))) := by decide

/-- S17, S18, S20 to S22, S24. -/
theorem test_mfr_valid :
    opStep (.mfrValid (.oneByte 0x00#7)) = some (.bit false) ∧
    opStep (.mfrValid (.oneByte 0x7E#7)) = some (.bit false) ∧
    opStep (.mfrValid (.oneByte 0x01#7)) = some (.bit true) ∧
    opStep (.mfrValid (.oneByte 0x7D#7)) = some (.bit true) ∧
    opStep (.mfrValid (.threeByte 0#7 0#7)) = some (.bit false) ∧
    opStep (.mfrValid (.threeByte 0#7 1#7)) = some (.bit true) := by decide

/-- V54, V56, V58, V60. -/
theorem test_ev_make :
    opStep (.evMake (.noteOn 60 0 0 none)) = some (.event (.noteOn 60#7 0#7 0#4 0#4)) ∧
    opStep (.evMake (.noteOn 128 200 16 (some 0))) = some (.error (.outOfRangeValue .uint7 (some .note) (.int 128))) ∧
    opStep (.evMake (.m2NoteOn 60 65536 0 0 0 (some 0))) = some (.error (.outOfRangeValue .uint16 (some .velocity) (.int 65536))) ∧
    opStep (.evMake (.cc 1 2 0 (some 16))) = some (.error (.outOfRangeValue .uint4 (some .group) (.int 16))) := by decide

/-- S26, V63, V64. -/
theorem test_ev_eq :
    opStep (.evEq (.noteOn 60#7 64#7 0#4 0#4) (.noteOn 60#7 64#7 0#4 1#4)) = some (.bit false) ∧
    opStep (.evEq (.noteOn 60#7 0#7 0#4 0#4) (.noteOff 60#7 0#7 0#4 0#4)) = some (.bit false) ∧
    opStep (.evEq (.sysEx7 (.oneByte 0x41#7) [1#7] 0#4) (.sysEx7 (.oneByte 0x41#7) [1#7] 0#4)) = some (.bit true) := by decide

/-- V227. -/
theorem test_reserved_operation :
    refusal (step (issued ⟨0xF#4, Ports.zero⟩)) = some .reservedOperation := by decide

/-- Placing an instruction where the next step fetches it (log 10). -/
theorem test_fetch_word :
    after (step (State.reset.withFetchWord 32 0x20903C40)) = after (exec (.umpNoteOn 0#4 0#4 0x3C#8 0x40#8) (inGroup [0x20903C40#32, 0#32, 0#32, 0#32])) ∧
    after (step (State.reset.withFetchWord 8 0x95)) = after (exec (.noteOn 5#4) (inPacket fresh [0x95#8])) ∧
    after (step (State.reset.withFetchWord 8 0x0E)) = after (exec (.m1Abandon 0) State.reset) := by decide

/-! ### Witnesses: concrete states and operands that meet the hypotheses of each statement -/

/-- A state between operations with two instances. -/
def quiet : State := { State.reset with parsers := [some fresh, some { fresh with mode := .collectingSysEx, sxbuf := [0x41#7] }] }

/-- A state under `RS_SCOPE = NONE` and `SCALER_ARITH = BINARY64`. -/
def other : State := { State.reset with params := ⟨.none, .binary64⟩ }

/-- An instance in the middle of a message. -/
def midway (st : Byte) (d : List U7) : Parser := { fresh with pend := some ⟨st, d⟩ }

theorem witness_StepRunsTheDecodedInstruction :
    (issued ⟨0x8#4, Ports.zero⟩).phase = .quiescent ∧
    (issued ⟨0x8#4, Ports.zero⟩).requests = [⟨0x8#4, Ports.zero⟩] ∧
    (inPacket fresh [0x90#8]).phase = .packet 0 [0x90#8] ∧
    (inPacket fresh [0x90#8]).parser? 0 = some fresh ∧
    [0x90#8][fresh.cur]? = some 0x90#8 ∧
    (inGroup [0x10F80000#32]).phase = .group [0x10F80000#32] ∧
    State.reset.phase = .quiescent ∧
    State.reset.requests = [] := by decide

theorem witness_StepOnlyAppendsOutcomes : ∃ t, step (inPacket fresh [0x90#8]) = .next t := ⟨_, rfl⟩

theorem witness_PacketStart :
    quiet.phase = .quiescent ∧
    quiet.parser? 1 = some { fresh with mode := .collectingSysEx, sxbuf := [0x41#7] } := by decide

theorem witness_PacketEnd :
    (inPacket (midway 0x90#8 []) []).phase = .packet 0 [] ∧
    (inPacket (midway 0x90#8 []) []).parser? 0 = some (midway 0x90#8 []) ∧
    (midway 0x90#8 []).cur = ([] : List Byte).length := by decide

theorem witness_ChannelStatusOpensMessage :
    (inPacket fresh [0x8F#8]).phase = .packet 0 [0x8F#8] ∧
    (inPacket fresh [0x8F#8]).parser? 0 = some fresh ∧
    fresh.mode = .idle := by decide

/-- One instance for each clause, in the packet state of `witness_ChannelStatusOpensMessage`. -/
theorem witness_DataByteInIdle :
    fresh.pend = none ∧ fresh.rs = none ∧
    (midway 0x90#8 []).pend = some ⟨0x90#8, []⟩ ∧ need 0x90#8 = some 2 ∧ ([] : List U7).length + 1 ≠ 2 ∧
    (midway 0x90#8 [0x3C#7]).pend = some ⟨0x90#8, [0x3C#7]⟩ ∧ [0x3C#7].length + 1 = 2 ∧
    ({ fresh with rs := some 0xC5#8 } : Parser).pend = none ∧ ({ fresh with rs := some 0xC5#8 } : Parser).rs = some 0xC5#8 ∧ need 0xC5#8 = some 1 ∧
    (midway 0xF3#8 []).pend = some ⟨0xF3#8, []⟩ ∧ need 0xF3#8 = some 1 := by decide

theorem witness_ChannelMessagesComplete :
    (inPacket (midway (0x8#4 ++ 15#4) [127#7]) [0x7F#8]).parser? 0 = some (midway (0x8#4 ++ 15#4) [127#7]) ∧
    (inPacket (midway (0x9#4 ++ 15#4) [127#7]) [0x7F#8]).parser? 0 = some (midway (0x9#4 ++ 15#4) [127#7]) ∧
    (inPacket (midway (0xA#4 ++ 15#4) [127#7]) [0x7F#8]).parser? 0 = some (midway (0xA#4 ++ 15#4) [127#7]) ∧
    (inPacket (midway (0xB#4 ++ 15#4) [127#7]) [0x7F#8]).parser? 0 = some (midway (0xB#4 ++ 15#4) [127#7]) ∧
    (inPacket (midway (0xC#4 ++ 15#4) []) [0x7F#8]).parser? 0 = some (midway (0xC#4 ++ 15#4) []) ∧
    (inPacket (midway (0xD#4 ++ 15#4) []) [0x7F#8]).parser? 0 = some (midway (0xD#4 ++ 15#4) []) ∧
    (inPacket (midway (0xE#4 ++ 15#4) [127#7]) [0x7F#8]).parser? 0 = some (midway (0xE#4 ++ 15#4) [127#7]) ∧
    (midway 0x9F#8 [127#7]).mode = .idle := by decide

theorem witness_NoteOnVelocityZero :
    (inPacket (midway (0x9#4 ++ 5#4) [60#7]) [0x00#8]).phase = .packet 0 [0x00#8] ∧
    (inPacket (midway (0x9#4 ++ 5#4) [60#7]) [0x00#8]).parser? 0 = some (midway (0x9#4 ++ 5#4) [60#7]) ∧
    (midway (0x9#4 ++ 5#4) [60#7]).pend = some ⟨0x9#4 ++ 5#4, [60#7]⟩ ∧
    (inGroup [0x20953C00#32]).phase = .group [0x20953C00#32] ∧
    [0x20953C00#32] ≠ [] := by decide

theorem witness_SystemMessagesInIdle :
    (inPacket (midway 0xF1#8 []) [0x7F#8]).parser? 0 = some (midway 0xF1#8 []) ∧
    (inPacket (midway 0xF2#8 [127#7]) [0x7F#8]).parser? 0 = some (midway 0xF2#8 [127#7]) ∧
    (inPacket (midway 0xF3#8 []) [0x7F#8]).parser? 0 = some (midway 0xF3#8 []) := by decide

theorem witness_SysExCollection :
    (inPacket ({ fresh with mode := .collectingSysEx, sxbuf := [0x41#7] } : Parser) [0xF7#8]).parser? 0 = some ({ fresh with mode := .collectingSysEx, sxbuf := [0x41#7] } : Parser) ∧
    ({ fresh with mode := .collectingSysEx, sxbuf := [0x41#7] } : Parser).mode = .collectingSysEx ∧
    ({ fresh with mode := .collectingSysEx, sxbuf := [] } : Parser).sxbuf = [] ∧
    ({ fresh with mode := .collectingSysEx, sxbuf := [127#7] } : Parser).sxbuf = 127#7 :: [] ∧
    ({ fresh with mode := .collectingSysEx, sxbuf := [0#7, 0#7, 0#7] } : Parser).sxbuf = 0#7 :: 0#7 :: 0#7 :: [] ∧
    ({ fresh with mode := .collectingSysEx, sxbuf := [0#7, 5#7] } : Parser).sxbuf = 0#7 :: [5#7] ∧ [5#7].length < 2 := by decide

theorem witness_SystemBytesInIdle :
    (inPacket (midway 0x90#8 [0x3C#7]) [0xF4#8]).phase = .packet 0 [0xF4#8] ∧
    (inPacket (midway 0x90#8 [0x3C#7]) [0xF4#8]).parser? 0 = some (midway 0x90#8 [0x3C#7]) ∧
    (midway 0x90#8 [0x3C#7]).mode = .idle := by decide

theorem witness_StatusByteEndsSysEx :
    (inPacket ({ fresh with mode := .collectingSysEx, sxbuf := [0x41#7] } : Parser) [0x80#8]).phase = .packet 0 [0x80#8] ∧
    (inPacket ({ fresh with mode := .collectingSysEx, sxbuf := [0x41#7] } : Parser) [0x80#8]).parser? 0 = some ({ fresh with mode := .collectingSysEx, sxbuf := [0x41#7] } : Parser) ∧
    ({ fresh with mode := .collectingSysEx, sxbuf := [0x41#7] } : Parser).mode = .collectingSysEx ∧
    ({ fresh with mode := .collectingSysEx, sxbuf := [] } : Parser).sxbuf = [] ∧
    ({ fresh with mode := .collectingSysEx, sxbuf := [127#7] } : Parser).sxbuf = 127#7 :: [] ∧
    ({ fresh with mode := .collectingSysEx, sxbuf := [0#7, 0#7, 0#7] } : Parser).sxbuf = 0#7 :: 0#7 :: 0#7 :: [] ∧
    ({ fresh with mode := .collectingSysEx, sxbuf := [0#7, 5#7] } : Parser).sxbuf = 0#7 :: [5#7] ∧ [5#7].length < 2 := by decide

theorem witness_RealTimeBytesTransparent :
    (inPacket ({ fresh with mode := .collectingSysEx, sxbuf := [0x41#7] } : Parser) [0xF8#8]).phase = .packet 0 [0xF8#8] ∧
    (inPacket ({ fresh with mode := .collectingSysEx, sxbuf := [0x41#7] } : Parser) [0xF8#8]).parser? 0 = some ({ fresh with mode := .collectingSysEx, sxbuf := [0x41#7] } : Parser) := by decide

theorem witness_ByteStepIsM1Byte :
    (inPacket ({ fresh with mode := .collectingSysEx, sxbuf := [0x41#7] } : Parser) [0xF7#8]).phase = .packet 0 [0xF7#8] ∧
    (inPacket ({ fresh with mode := .collectingSysEx, sxbuf := [0x41#7] } : Parser) [0xF7#8]).parser? 0 = some ({ fresh with mode := .collectingSysEx, sxbuf := [0x41#7] } : Parser) := by decide

theorem witness_CfgWriteWritesNoz :
    quiet.phase = .quiescent ∧
    quiet.parser? 0 = some fresh := by decide

theorem witness_UmpMidi1Messages :
    (inGroup [0x20903C80#32]).phase = .group [0x20903C80#32] ∧
    [0x20903C80#32] ≠ [] ∧
    0x80 ≤ (0x3C#8).toNat ∨ 0x80 ≤ (0x80#8).toNat ∧
    0x80 ≤ (0x80#8).toNat := by decide

theorem witness_UmpSkippedWords :
    (inGroup [0xF0000000#32]).phase = .group [0xF0000000#32] := by decide

theorem witness_ScalerRoundTrip :
    clamp (.finite (-3 / 4)) = some (-3 / 4) ∧
    other.params.scalerArith = .binary64 ∧ rn64 (-3 / 4) = -3 / 4 ∧
    State.reset.params.scalerArith = .exact := by decide +kernel

theorem fresh_wf (params : Params) (hs : params.rsScope ≠ .none) : ({ fresh with rs := some 0xEF#8 } : Parser).Wf params :=
  ⟨fun _ => rfl, fun h => (by cases h), fun h => (by cases h), fun st h => (by cases h; rfl), fun h => absurd h hs, fun m h => (by cases h)⟩

theorem witness_RunningStatusAfterEachByte :
    (inPacket { fresh with rs := some 0xEF#8 } [0x7F#8]).phase = .packet 0 [0x7F#8] ∧
    (inPacket { fresh with rs := some 0xEF#8 } [0x7F#8]).parser? 0 = some { fresh with rs := some 0xEF#8 } ∧
    ({ fresh with rs := some 0xEF#8 } : Parser).Wf (inPacket { fresh with rs := some 0xEF#8 } [0x7F#8]).params ∧
    (0x7F#8).toNat < 0x80 ∧ 0x80 ≤ (0x80#8).toNat ∧ (0xEF#8).toNat ≤ 0xEF ∧ 0xF0 ≤ (0xF0#8).toNat ∧ (0xF7#8).toNat ≤ 0xF7 ∧
    0xF8 ≤ (0xF8#8).toNat :=
  ⟨rfl, rfl, fresh_wf _ (by decide), by decide, by decide, by decide, by decide, by decide, by decide⟩

theorem witness_PacketRunsItsBytes :
    (issued ⟨0x2#4, { Ports.zero with bytes := [0x90#8] }⟩).phase = .quiescent ∧
    (issued ⟨0x2#4, { Ports.zero with bytes := [0x90#8] }⟩).requests = [⟨0x2#4, { Ports.zero with bytes := [0x90#8] }⟩] ∧
    (issued ⟨0x2#4, { Ports.zero with bytes := [0x90#8] }⟩).parser? 0 = some fresh := by decide

/-- Cuts after `0xF0` and before `0xF7`, and an empty packet between. -/
theorem witness_SysExAcrossPackets :
    fresh.mode = .idle ∧
    Mfr.threeByte 0#7 1#7 ≠ .oneByte 0#7 ∧
    [0xF7#8] ≠ [] ∧
    [[0xF0#8], [], [0x00#8, 0x00#8], [0x01#8, 0x22#8]].flatten ++ [0xF7#8] = [0xF0#8] ++ (mfrBytes (.threeByte 0#7 1#7) ++ [0x22#7]).map (fun v => 0#1 ++ v) ++ [0xF7#8] := by decide

theorem witness_ResetMakesAFreshInstance :
    quiet.phase = .quiescent ∧
    quiet.parser? 1 = some { fresh with mode := .collectingSysEx, sxbuf := [0x41#7] } := by decide

theorem witness_AbandonEndsTheInstance :
    quiet.phase = .quiescent ∧
    quiet.parser? 0 = some fresh ∧
    quiet.parser? 2 = none := by decide

theorem witness_OperationsDoNotOverlap :
    (inPacket fresh []).phase ≠ .quiescent ∧
    (inGroup []).phase ≠ .quiescent := by decide

theorem witness_InstancesAreIndependent :
    let s : State := { quiet with phase := .packet 0 [0x90#8] }
    s.parser? 1 = some { fresh with mode := .collectingSysEx, sxbuf := [0x41#7] } ∧
    (∀ pkt, s.phase ≠ .packet 1 pkt) ∧ ¬ (s.phase = .quiescent ∧ s.headNames 1) := by
  refine ⟨rfl, fun pkt h => ?_, fun h => ?_⟩
  · cases h
  · cases h.1

theorem witness_StepKeepsInv : (inPacket fresh [0x90#8]).Inv ∧ ∃ t, step (inPacket fresh [0x90#8]) = .next t := by
  refine ⟨⟨fun h p e => ?_, fun h p e n => ?_, fun h pkt e => ?_, fun ws e => (by cases e)⟩, ⟨_, rfl⟩⟩
  · match h, e with
    | 0, e =>
      cases e
      exact ⟨fun _ => rfl, fun h => (by cases h), fun h => (by cases h), fun st h => (by cases h), fun _ => rfl, fun m h => (by cases h)⟩
  · match h, e with
    | 0, e => exact absurd rfl (n [0x90#8])
  · cases e
    exact ⟨fresh, rfl, by decide⟩

theorem witness_FaultsOnlyWithoutAnInstance :
    let s : State := { State.reset with parsers := [], requests := [⟨0xE#4, Ports.zero⟩] }
    s.Inv ∧ step s = .fault .noSuchParser := by
  refine ⟨⟨fun h p e => ?_, fun h p e n => ?_, fun h pkt e => (by cases e), fun ws e => (by cases e)⟩, rfl⟩
  · cases e
  · cases e

theorem witness_RefusalsAreTheFour :
    (inGroup [0x50000000#32, 0#32, 0#32, 0#32]).phase = .group [0x50000000#32, 0#32, 0#32, 0#32] ∧ 4 ≤ [0x50000000#32, 0#32, 0#32, 0#32].length ∧
    (inGroup [0x50000000#32, 0#32, 0#32]).phase = .group [0x50000000#32, 0#32, 0#32] ∧ [0x50000000#32, 0#32, 0#32].length < 4 ∧
    (Event.m2Pressure 0#32 0#4 0#4).isMidi2 = true ∧
    refusal (exec .opReservedF State.reset) = some .reservedOperation := by decide

theorem witness_ErrorsByOperation : ∃ t,
    exec (.u4Check 16) State.reset = .next t ∧
    t.replies = State.reset.replies ++ [.error (.outOfRangeValue .uint4 none (.int 16))] := ⟨_, rfl, rfl⟩

theorem witness_RangeChecks :
    (0 : Int) ≤ 0 ∧ (0 : Int) ≤ 15 ∧
    (0 : Int) ≤ 15 ∧ (15 : Int) ≤ 15 ∧
    (-1 : Int) < 0 ∧
    (15 : Int) < 16 ∧
    (0 : Int) ≤ 127 ∧ (127 : Int) ≤ 127 ∧
    (127 : Int) < 128 := by decide

/-- Both alternatives occur. -/
theorem witness_EvMakeChecksInOrder :
    ∀ c ∈ checkedFields (.noteOn 127 0 15 none), inRange c = true ∧
    checkedFields (.noteOn 127 128 16 none) = [(.uint7, .note, 127)] ++ (.uint7, .velocity, 128) :: [(.uint4, .channel, 16)] ∧
    ∀ c ∈ [(RangeType.uint7, Machine.Field.note, (127 : Int))], inRange c = true ∧
    inRange (.uint7, .velocity, 128) = false := by decide

/-- One body for each clause. -/
theorem witness_Sx7FromBytesByCases :
    0x00#8 ≠ 0xF0#8 ∧
    [0xF0#8, 0x41#8, 0xF7#8] = 0xF0#8 :: [0x41#8] ++ [0xF7#8] ∧
    [0xF0#8, 0x41#8] = 0xF0#8 :: [0x41#8] ∧ [0x41#8].getLast? ≠ some 0xF7#8 ∧
    [0xF7#8] = [] ++ 0xF7#8 :: [] ∧
    [0x41#8, 0x80#8] = [0x41#8] ++ [0x80#8] ∧ ¬ (0x80#8).toNat < 0x80 ∧ (0x41#8).toNat < 0x80 ∧
    [0x80#8, 0x7F#8] = [] ++ 0x80#8 :: [0x7F#8] ∧ [0x7F#8] ≠ [] ∧
    [0x00#8, 0x7F#8] = 0x00#8 :: [0x7F#8] ∧ [0x7F#8].length < 2 ∧
    [0x01#8, 0x7F#8] = (1#7 :: [127#7]).map (fun v => 0#1 ++ v) ∧
    [0x00#8, 0x00#8, 0x7F#8] = (0#7 :: 0#7 :: 127#7 :: []).map (fun v => 0#1 ++ v) := by decide

theorem witness_CanonicalForm :
    (∃ e, exec (.sx7FromBytes [0xF0#8, 0x41#8] (some 3#4)) State.reset = .next (State.reset.reply (.event e))) ∧
    Mfr.oneByte 1#7 ≠ .oneByte 0#7 := ⟨⟨_, rfl⟩, by decide⟩

theorem witness_ScalerEncodes :
    State.reset.params.scalerArith = .exact ∧
    clamp (.finite (1 / 2)) = some (1 / 2) ∧
    (0 : Rat) < 1 / 2 ∧
    clamp .negInf = some (-1) ∧
    (-1 : Rat) ≤ 0 ∧
    clamp (.finite 0) = some 0 ∧
    ((-2 : Rat) < -1 ∧ (1 : Rat) < 2) := by decide +kernel

theorem witness_ScalerDecodes :
    0x80000000 < (0x80000001#32).toNat ∧
    (0x80000000#32).toNat ≤ 0x80000000 := by decide

/-- The binary64 value of 1/3 is `0x1.5555555555555p-2`, that is `0x15555555555555 / 2 ^ 54`; `2 ^ 53 + 3` is a tie between `2 ^ 53 + 2`, of odd
significand, and `2 ^ 53 + 4`. -/
theorem test_rn64 :
    rn64 (1 / 3) = 6004799503160661 / 18014398509481984 ∧
    rn64 3 = 3 ∧
    rn64 9007199254740995 = 9007199254740996 := by decide +kernel

/-- A tie: `2 ^ 53 + 1` lies half way between `2 ^ 53` and `2 ^ 53 + 2`. -/
theorem witness_Rn64IsNearest :
    IsBinary64 9007199254740994 ∧ (9007199254740994 : Rat) ≠ rn64 9007199254740993 ∧
    |(9007199254740994 : Rat) - 9007199254740993| = |rn64 9007199254740993 - 9007199254740993| :=
  ⟨⟨4503599627370497, 1, by decide, by decide, by norm_num⟩, by decide +kernel, by
    rw [show rn64 9007199254740993 = 9007199254740992 by decide +kernel]
    norm_num⟩

theorem witness_ScalerArithmetics :
    other.params.scalerArith = .binary64 ∧
    clamp (.finite (1 / 2 + 1 / 2147483648)) = some (1 / 2 + 1 / 2147483648) ∧
    rn64 (1 / 2 + 1 / 2147483648) = 1 / 2 + 1 / 2147483648 ∧
    clamp (.finite (-3 / 4)) = some (-3 / 4) ∧ rn64 (-3 / 4) = -3 / 4 ∧
    clamp .posInf = some 1 ∧ rn64 1 = 1 := by decide +kernel

theorem witness_ScalerMonotonic :
    clamp .negInf = some (-1) ∧ clamp (.finite 0) = some 0 ∧ (-1 : Rat) ≤ 0 ∧
    (0x7FFFFFFF#32).toNat < (0x80000000#32).toNat := by decide +kernel

theorem witness_DecodeBegins :
    State.reset.phase = .quiescent ∧
    [0x10F80000#32] ≠ [] := by decide

theorem witness_UmpSystemMessages :
    (inGroup [0x10F87FFF#32]).phase = .group [0x10F87FFF#32] ∧
    [0x10F87FFF#32] ≠ [] ∧
    0x80 ≤ (0x80#8).toNat := by decide

theorem witness_UmpMidi2Controllers :
    (inGroup [0x40003C07#32, 0x12345678#32]).phase = .group (0x40003C07#32 :: 0x12345678#32 :: []) ∧
    0x80 ≤ (0x80#8).toNat ∨ 0x80 ≤ (0x00#8).toNat := by decide

theorem witness_UmpMidi2Notes :
    (inGroup [0x40903C03#32, 0xFFFF1234#32]).phase = .group (0x40903C03#32 :: 0xFFFF1234#32 :: []) ∧
    0xFFFF1234#32 = 0xFFFF#16 ++ 0x1234#16 := by decide

theorem witness_UmpMidi2ProgramChange :
    (inGroup [0x40C00001#32, 0x05000102#32]).phase = .group (0x40C00001#32 :: 0x05000102#32 :: []) ∧
    0x05000102#32 = 0x05#8 ++ 0x00#8 ++ 0x01#8 ++ 0x02#8 ∧
    0x05#8 = 0#1 ++ 5#7 ∧ 0x01#8 = 0#1 ++ 1#7 ∧ 0x02#8 = 0#1 ++ 2#7 ∧
    (0x01#8).getLsbD 0 = true ∧ (0xFE#8).getLsbD 0 = false ∧
    0x80 ≤ (0x80#8).toNat := by decide

theorem witness_UmpSysExComplete :
    (inGroup [0x30034101#32, 0x34000000#32]).phase = .group (0x30034101#32 :: (0x34#8 ++ 0x00#8 ++ 0x00#8 ++ 0x00#8) :: []) ∧
    6 < (7#4).toNat ∧ (6#4).toNat ≤ 6 ∧
    Mfr.oneByte 0x41#7 ≠ .oneByte 0#7 ∧
    [0x41#8, 0x01#8, 0x34#8, 0x00#8, 0x00#8, 0x00#8].take (3#4).toNat = (mfrBytes (.oneByte 0x41#7) ++ [0x01#7, 0x34#7]).map (fun v => 0#1 ++ v) := by decide

theorem witness_UmpPacketLength :
    State.reset.phase = .quiescent ∧
    (inGroup [0x40603C00#32]).phase = .group [0x40603C00#32] ∧ nwords (wordMt 0x40603C00#32) = some 2 ∧ [0x40603C00#32].length < 2 ∧
    nwords (wordMt 0x10F80000#32) = some 1 ∧ 1 ≤ [0x10F80000#32].length := by decide

theorem witness_DecodeIsAFunctionOfWords :
    (issued ⟨0x4#4, { Ports.zero with words := [0x10F80000#32] }⟩).phase = .quiescent ∧
    (issued ⟨0x4#4, { Ports.zero with words := [0x10F80000#32] }⟩).requests = [⟨0x4#4, { Ports.zero with words := [0x10F80000#32] }⟩] := by decide

theorem witness_PackUmpSysEx :
    (mfrBytes (.oneByte 0x41#7) ++ [1#7, 2#7, 3#7, 4#7, 5#7]).length ≤ 6 ∧
    mfrBytes (.oneByte 0x41#7) ++ [1#7, 2#7, 3#7, 4#7, 5#7, 6#7, 7#7, 8#7, 9#7, 10#7, 11#7, 12#7] = [0x41#7, 1#7, 2#7, 3#7, 4#7, 5#7] ++ [[6#7, 7#7, 8#7, 9#7, 10#7, 11#7]].flatten ++ [12#7] ∧
    mfrBytes (.oneByte 0x41#7) ++ [1#7, 2#7, 3#7, 4#7, 5#7, 6#7, 7#7, 8#7, 9#7, 10#7, 11#7] = [0x41#7, 1#7, 2#7, 3#7, 4#7, 5#7] ++ [].flatten ++ [6#7, 7#7, 8#7, 9#7, 10#7, 11#7] := by decide

theorem witness_PackUmpMidi2 :
    (Event.m2CC 127#7 0#32 15#4 0#4).isMidi2 = true := by decide

theorem witness_RoundTripThroughBytes :
    (Event.noteOn 60#7 0#7 0#4 0#4).isMidi2 = false ∧ (Event.noteOn 60#7 0#7 0#4 0#4).group = 0#4 ∧
    (∀ note ch g, Event.noteOn 60#7 0#7 0#4 0#4 = .noteOn note 0#7 ch g → false = false) ∧
    (∀ d g, Event.noteOn 60#7 0#7 0#4 0#4 ≠ .sysEx7 (.oneByte 0#7) d g) :=
  ⟨rfl, rfl, fun _ _ _ _ => rfl, fun _ _ h => (by cases h)⟩

theorem witness_RoundTripThroughWords :
    exec (.packUmp (.noteOn 60#7 64#7 0#4 0#4) .p2_0) State.reset = .next (State.reset.reply (.groups [[0x20903C40#32]])) ∧
    (∀ d g, Event.noteOn 60#7 64#7 0#4 0#4 ≠ .sysEx7 (.oneByte 0#7) d g) ∧
    (inGroup [0x20903C40#32]).phase = .group [0x20903C40#32] ∧
    (∀ m d g, Event.sysEx7 (.oneByte 0x41#7) [1#7, 2#7, 3#7, 4#7, 5#7] 0#4 = .sysEx7 m d g → (mfrBytes m ++ d).length ≤ 6) :=
  ⟨rfl, fun _ _ h => (by cases h), rfl, fun m d g h => by cases h; decide⟩

end Sys2Proof.Tests
end

section
/-! PROOFS. `RN64` rounds to the nearest binary64 value (R12): the values of its helpers as powers of two, the integer rounding, the grid of
spacing `2 ^ ulpExp q` around a positive `q`, and the nearest point on it; negative rationals follow by symmetry. -/

namespace Sys2Proof.Proofs

open Sys2Proof.Machine

/-! ### The helpers of `rn64` -/

@[simp] theorem absRat_eq_abs (q : Rat) : absRat q = |q| := by
  unfold absRat
  split
  case isTrue h => exact (abs_of_neg h).symm
  case isFalse h => exact (abs_of_nonneg (not_lt.mp h)).symm

theorem pow2_eq_zpow (e : Int) : pow2 e = (2 : Rat) ^ e := by
  unfold pow2
  split
  case isTrue h =>
    lift e to Nat using h
    simp
  case isFalse h =>
    obtain ⟨n, rfl⟩ : ∃ n : Nat, e = -n := ⟨(-e).toNat, by omega⟩
    simp

theorem two_pow_log2_le {n : Nat} (hn : n ≠ 0) : (2 : Rat) ^ (n.log2 : Int) ≤ n := by
  rw [zpow_natCast]
  exact_mod_cast Nat.log2_self_le hn

theorem lt_two_pow_log2_succ (n : Nat) : (n : Rat) < 2 ^ (n.log2 + 1 : Int) := by
  have h : n < 2 ^ (n.log2 + 1) := Nat.lt_log2_self
  rw [← Nat.cast_succ, zpow_natCast]
  exact_mod_cast h

/-- The leading bits of numerator and denominator fix the exponent of a quotient up to one. -/
theorem two_zpow_log2_sub_bounds {n d : Nat} (hn : n ≠ 0) (hd : d ≠ 0) :
    (2 : Rat) ^ (n.log2 - d.log2 - 1 : Int) < n / d ∧ (n / d : Rat) < 2 ^ (n.log2 - d.log2 + 1 : Int) := by
  have hd0 : (0 : Rat) < d := by exact_mod_cast Nat.pos_of_ne_zero hd
  have hpow (e : Int) : (0 : Rat) < 2 ^ e := by positivity
  rw [lt_div_iff₀ hd0, div_lt_iff₀ hd0]
  constructor
  · calc (2 : Rat) ^ (n.log2 - d.log2 - 1 : Int) * d
        < 2 ^ (n.log2 - d.log2 - 1 : Int) * 2 ^ (d.log2 + 1 : Int) := by gcongr; exact lt_two_pow_log2_succ d
      _ = 2 ^ (n.log2 : Int) := by rw [← zpow_add₀ two_ne_zero]; congr 1; ring
      _ ≤ n := two_pow_log2_le hn
  · calc (n : Rat) < 2 ^ (n.log2 + 1 : Int) := lt_two_pow_log2_succ n
      _ = 2 ^ (n.log2 - d.log2 + 1 : Int) * 2 ^ (d.log2 : Int) := by rw [← zpow_add₀ two_ne_zero]; congr 1; ring
      _ ≤ 2 ^ (n.log2 - d.log2 + 1 : Int) * d := by gcongr; exact two_pow_log2_le hd

/-- `leadExp q` is the exponent of the leading bit of a positive `q`. -/
theorem leadExp_bounds {q : Rat} (hq : 0 < q) : (2 : Rat) ^ leadExp q ≤ q ∧ q < 2 ^ (leadExp q + 1) := by
  have hnum : 0 < q.num := Rat.num_pos.mpr hq
  have hfrac : ((q.num.toNat : Nat) : Rat) / q.den = q := by
    rw [← Int.cast_natCast, Int.toNat_of_nonneg hnum.le, Rat.num_div_den]
  obtain ⟨hlo, hhi⟩ := two_zpow_log2_sub_bounds (n := q.num.toNat) (by omega) q.den_nz
  rw [hfrac] at hlo hhi
  simp only [leadExp, pow2_eq_zpow]
  split
  case isTrue h => exact ⟨hlo.le, by simpa using h⟩
  case isFalse h => exact ⟨not_lt.mp h, hhi⟩

/-! ### Rounding to an integer -/

/-- `roundHalfEven t` is within one half of `t`, and even where it is one half away. -/
theorem roundHalfEven_dist (t : Rat) :
    |(roundHalfEven t : Rat) - t| ≤ 1 / 2 ∧ (|(roundHalfEven t : Rat) - t| = 1 / 2 → roundHalfEven t % 2 = 0) := by
  have hlo : (t.floor : Rat) ≤ t := Int.floor_le t
  have hhi : t < t.floor + 1 := Int.lt_floor_add_one t
  have habs_floor : |(t.floor : Rat) - t| = t - t.floor := by rw [abs_sub_comm, abs_of_nonneg (by linarith)]
  have habs_succ : |((t.floor + 1 : Int) : Rat) - t| = t.floor + 1 - t := by
    rw [Int.cast_add, Int.cast_one, abs_of_nonneg (by linarith)]
  simp only [roundHalfEven]
  split_ifs with hbelow habove heven
  · rw [habs_floor]
    exact ⟨hbelow.le, fun h => absurd h hbelow.ne⟩
  · rw [habs_succ]
    exact ⟨by linarith, fun h => by linarith⟩
  · rw [habs_floor]
    exact ⟨not_lt.mp habove, fun _ => heven⟩
  · rw [habs_succ]
    exact ⟨by linarith, fun _ => by omega⟩

/-- No integer is nearer to `t` than `roundHalfEven t`, which is even where another is as near. -/
theorem roundHalfEven_nearest (t : Rat) (n : Int) :
    |(roundHalfEven t : Rat) - t| ≤ |(n : Rat) - t| ∧
    (n ≠ roundHalfEven t → |(n : Rat) - t| = |(roundHalfEven t : Rat) - t| → roundHalfEven t % 2 = 0) := by
  obtain ⟨hhalf, heven⟩ := roundHalfEven_dist t
  by_cases hn : n = roundHalfEven t
  · exact ⟨by rw [hn], fun h => absurd hn h⟩
  · have hone : (1 : Rat) ≤ |(n : Rat) - roundHalfEven t| := by
      exact_mod_cast Int.one_le_abs (sub_ne_zero.mpr hn)
    have htri := abs_sub_le (n : Rat) t (roundHalfEven t)
    rw [abs_sub_comm t] at htri
    exact ⟨by linarith, fun _ h => heven (by linarith)⟩

theorem le_roundHalfEven {t : Rat} {n : Int} (h : n ≤ t) : n ≤ roundHalfEven t := by
  obtain ⟨hlo, -⟩ := abs_le.mp (roundHalfEven_dist t).1
  have : (n : Rat) < (roundHalfEven t + 1 : Int) := by push_cast; linarith
  exact Int.lt_add_one_iff.mp (by exact_mod_cast this)

theorem roundHalfEven_le {t : Rat} {n : Int} (h : t ≤ n) : roundHalfEven t ≤ n := by
  obtain ⟨-, hhi⟩ := abs_le.mp (roundHalfEven_dist t).1
  have : (roundHalfEven t : Rat) < (n + 1 : Int) := by push_cast; linarith
  exact Int.lt_add_one_iff.mp (by exact_mod_cast this)

/-! ### The grid around a positive rational -/

/-- The exponent of `ulp64 q`. -/
def ulpExp (q : Rat) : Int := max (leadExp q - 52) (-1074)

theorem ulp64_eq_zpow (q : Rat) : ulp64 q = (2 : Rat) ^ ulpExp q := pow2_eq_zpow _

theorem neg_1074_le_ulpExp (q : Rat) : -1074 ≤ ulpExp q := le_max_right _ _

/-- A positive rational has at most 53 bits above the last place of its grid. -/
theorem div_ulp_lt {q : Rat} (hq : 0 < q) : q / 2 ^ ulpExp q < 2 ^ 53 := by
  rw [div_lt_iff₀ (by positivity)]
  have hexp : leadExp q + 1 ≤ 53 + ulpExp q := by unfold ulpExp; omega
  calc q < 2 ^ (leadExp q + 1) := (leadExp_bounds hq).2
    _ ≤ 2 ^ (53 + ulpExp q) := zpow_le_zpow_right₀ one_le_two hexp
    _ = 2 ^ 53 * 2 ^ ulpExp q := zpow_add₀ two_ne_zero 53 _

/-- It has all 53, unless the grid is the finest one. -/
theorem two_pow_52_le_div_ulp {q : Rat} (hq : 0 < q) (hk : ulpExp q ≠ -1074) : 2 ^ 52 ≤ q / 2 ^ ulpExp q := by
  rw [le_div_iff₀ (by positivity)]
  have hexp : 52 + ulpExp q = leadExp q := by unfold ulpExp at hk ⊢; omega
  calc (2 : Rat) ^ 52 * 2 ^ ulpExp q = 2 ^ (52 + ulpExp q) := (zpow_add₀ two_ne_zero 52 _).symm
    _ = 2 ^ leadExp q := by rw [hexp]
    _ ≤ q := (leadExp_bounds hq).1

theorem abs_mul_zpow_sub (a q : Rat) (k : Int) : |a * 2 ^ k - q| = |a - q / 2 ^ k| * 2 ^ k := by
  have hu : (0 : Rat) < 2 ^ k := by positivity
  rw [← abs_of_pos hu, ← abs_mul, abs_of_pos hu, sub_mul, div_mul_cancel₀ _ hu.ne']

theorem mul_zpow_of_le (n : Int) {k f : Int} (h : k ≤ f) : ∃ j : Int, (n : Rat) * 2 ^ f = j * 2 ^ k := by
  obtain ⟨d, rfl⟩ := Int.le.dest h
  refine ⟨n * 2 ^ d, ?_⟩
  rw [zpow_add₀ two_ne_zero, zpow_natCast]
  push_cast
  ring

/-- A binary64 value finer than the grid around `q` lies below the binade of `q`, so the grid point at the foot of the binade is nearer. -/
theorem exists_ulp_multiple_nearer {q x : Rat} (hq : 0 < q) (hx : IsBinary64 x) :
    ∃ j : Int, x = j * 2 ^ ulpExp q ∨ |(j : Rat) * 2 ^ ulpExp q - q| < |x - q| := by
  obtain ⟨n, f, hn, hf, rfl⟩ := hx
  rcases le_or_gt (ulpExp q) f with hle | hlt
  · obtain ⟨j, hj⟩ := mul_zpow_of_le n hle
    exact ⟨j, .inl hj⟩
  · refine ⟨2 ^ 52, .inr ?_⟩
    have hfoot : (2 : Rat) ^ 52 * 2 ^ ulpExp q ≤ q :=
      (le_div_iff₀ (by positivity)).mp (two_pow_52_le_div_ulp hq (by omega))
    have hn' : (n : Rat) < 2 ^ 53 := by exact_mod_cast (abs_lt.mp hn).2
    have hbelow : (n : Rat) * 2 ^ f < 2 ^ 52 * 2 ^ ulpExp q :=
      calc (n : Rat) * 2 ^ f < 2 ^ 53 * 2 ^ f := by gcongr
        _ = 2 ^ 52 * 2 ^ (f + 1) := by rw [zpow_add_one₀ two_ne_zero]; ring
        _ ≤ 2 ^ 52 * 2 ^ ulpExp q := mul_le_mul_of_nonneg_left (zpow_le_zpow_right₀ one_le_two hlt) (by positivity)
    push_cast
    rw [abs_of_nonpos (by linarith), abs_of_nonpos (by linarith)]
    linarith

/-! ### Significands -/

/-- `y` has a significand, even where `P` holds. -/
def HasSignificand (y : Rat) (P : Prop) : Prop :=
  ∃ m e : Int, IsSignificand64 m e ∧ y = (m : Rat) * (2 : Rat) ^ e ∧ (P → m % 2 = 0)

/-- A rounding up to `2 ^ 53` moves to the next exponent, with the even significand `2 ^ 52`. -/
theorem hasSignificand_of_le {m k : Int} (hlo : 0 ≤ m) (hhi : m ≤ 2 ^ 53) (hk : -1074 ≤ k)
    (hnormal : k ≠ -1074 → 2 ^ 52 ≤ m) : HasSignificand (m * 2 ^ k) (m % 2 = 0) := by
  rcases hhi.lt_or_eq with hlt | rfl
  · refine ⟨m, k, ⟨by rwa [abs_of_nonneg hlo], hk, ?_⟩, rfl, id⟩
    rw [abs_of_nonneg hlo]
    tauto
  · refine ⟨2 ^ 52, k + 1, ⟨by norm_num, by omega, .inl (le_abs_self _)⟩, ?_, fun _ => by norm_num⟩
    rw [zpow_add_one₀ two_ne_zero]
    push_cast
    ring

theorem HasSignificand.isBinary64 {y : Rat} {P : Prop} (h : HasSignificand y P) : IsBinary64 y := by
  obtain ⟨m, e, ⟨hm, he, -⟩, hy, -⟩ := h
  exact ⟨m, e, hm, he, hy⟩

/-! ### `rn64` is the nearest value -/

theorem rn64_of_pos {q : Rat} (hq : 0 < q) : rn64 q = roundHalfEven (q / 2 ^ ulpExp q) * 2 ^ ulpExp q := by
  simp [rn64, hq.ne', hq.not_gt, abs_of_pos hq, ulp64_eq_zpow]

@[simp] theorem rn64_zero : rn64 0 = 0 := by simp [rn64]

@[simp] theorem rn64_neg (q : Rat) : rn64 (-q) = -rn64 q := by
  rcases lt_trichotomy q 0 with hneg | rfl | hpos
  · simp [rn64, hneg.ne, hneg, hneg.not_gt]
  · simp
  · simp [rn64, hpos.ne', hpos, hpos.not_gt]

/-- What `Obligations.Rn64IsNearest` says of `rn64 q`, said of any `y`. -/
def IsNearest64 (q y : Rat) : Prop :=
  IsBinary64 y ∧ ∀ x : Rat, IsBinary64 x →
    |y - q| ≤ |x - q| ∧
    (x ≠ y → |x - q| = |y - q| → ∃ m e : Int, IsSignificand64 m e ∧ y = (m : Rat) * (2 : Rat) ^ e ∧ m % 2 = 0)

theorem isBinary64_neg {x : Rat} (h : IsBinary64 x) : IsBinary64 (-x) := by
  obtain ⟨m, e, hm, he, rfl⟩ := h
  exact ⟨-m, e, by rwa [abs_neg], he, by push_cast; ring⟩

theorem isNearest64_neg {q y : Rat} (h : IsNearest64 q y) : IsNearest64 (-q) (-y) := by
  obtain ⟨hy, hnear⟩ := h
  have hdist (a : Rat) : |a - -q| = |-a - q| := by rw [← abs_neg]; congr 1; ring
  refine ⟨isBinary64_neg hy, fun x hx => ?_⟩
  obtain ⟨hle, htie⟩ := hnear (-x) (isBinary64_neg hx)
  rw [hdist, hdist, neg_neg]
  refine ⟨hle, fun hne heq => ?_⟩
  obtain ⟨m, e, ⟨hm, he, hbits⟩, rfl, heven⟩ := htie (fun h => hne (neg_eq_iff_eq_neg.mp h)) heq
  exact ⟨-m, e, ⟨by rwa [abs_neg], he, by rwa [abs_neg]⟩, by push_cast; ring, by omega⟩

theorem isNearest64_zero : IsNearest64 0 0 := by
  refine ⟨⟨0, 0, by norm_num⟩, fun x _ => ⟨by simp, fun hne heq => absurd ?_ hne⟩⟩
  simpa using heq

theorem hasSignificand_rn64 {q : Rat} (hq : 0 < q) :
    HasSignificand (rn64 q) (roundHalfEven (q / 2 ^ ulpExp q) % 2 = 0) := by
  rw [rn64_of_pos hq]
  refine hasSignificand_of_le (le_roundHalfEven ?_) (roundHalfEven_le ?_) (neg_1074_le_ulpExp q)
    fun hk => le_roundHalfEven ?_
  · rw [Int.cast_zero]
    positivity
  · exact_mod_cast (div_ulp_lt hq).le
  · exact_mod_cast two_pow_52_le_div_ulp hq hk

/-- Among the multiples of `2 ^ ulpExp q` the nearest to `q` is the one of the rounded quotient, so it is nearest among all binary64 values. -/
theorem isNearest64_rn64_of_pos {q : Rat} (hq : 0 < q) : IsNearest64 q (rn64 q) := by
  refine ⟨(hasSignificand_rn64 hq).isBinary64, fun x hx => ?_⟩
  obtain ⟨j, hj⟩ := exists_ulp_multiple_nearer hq hx
  obtain ⟨hle, htie⟩ := roundHalfEven_nearest (q / 2 ^ ulpExp q) j
  have hu : (0 : Rat) < 2 ^ ulpExp q := by positivity
  have hgrid : |rn64 q - q| ≤ |(j : Rat) * 2 ^ ulpExp q - q| := by
    rw [rn64_of_pos hq, abs_mul_zpow_sub, abs_mul_zpow_sub]
    exact mul_le_mul_of_nonneg_right hle hu.le
  rcases hj with rfl | hlt
  · refine ⟨hgrid, fun hne heq => ?_⟩
    obtain ⟨m, e, hsig, hval, heven⟩ := hasSignificand_rn64 hq
    refine ⟨m, e, hsig, hval, heven (htie ?_ ?_)⟩
    · rintro rfl
      exact hne (rn64_of_pos hq).symm
    · rw [rn64_of_pos hq, abs_mul_zpow_sub, abs_mul_zpow_sub] at heq
      exact mul_right_cancel₀ hu.ne' heq
  · exact ⟨hgrid.trans hlt.le, fun _ heq => absurd heq (hgrid.trans_lt hlt).ne'⟩

/-- Settles O41: the grid argument for a positive rational, its mirror image for a negative one, and zero. -/
theorem rn64IsNearest : Obligations.Rn64IsNearest := by
  intro q
  change IsNearest64 q (rn64 q)
  rcases lt_trichotomy q 0 with hneg | rfl | hpos
  · have h := isNearest64_neg (isNearest64_rn64_of_pos (neg_pos.mpr hneg))
    rwa [rn64_neg, neg_neg, neg_neg] at h
  · rw [rn64_zero]
    exact isNearest64_zero
  · exact isNearest64_rn64_of_pos hpos

end Sys2Proof.Proofs
end

section
/-! PROOFS. `RS` after every byte (R24): the effect of each byte row on the register, and the row of each byte. -/

namespace Sys2Proof.Proofs

open Sys2Proof.Machine

/-! ### The writes of a parser, on `RS` -/

@[simp] theorem emit_rs (e : Event) (p : Parser) : (emit e p).rs = p.rs := rfl
@[simp] theorem skip_rs (r : SkipReason) (p : Parser) : (skip r p).rs = p.rs := rfl
@[simp] theorem advance_rs (p : Parser) : (advance p).rs = p.rs := rfl
@[simp] theorem collect_rs (v : U7) (p : Parser) : (collect v p).rs = p.rs := rfl
@[simp] theorem cancelMessage_rs (p : Parser) : (cancelMessage p).rs = none := rfl
@[simp] theorem openSystemMessage_rs (st : Byte) (p : Parser) : (openSystemMessage st p).rs = none := rfl
@[simp] theorem openSysEx_rs (p : Parser) : (openSysEx p).rs = none := rfl
@[simp] theorem openChannelMessage_rs (scope : RsScope) (st : Byte) (p : Parser) :
    (openChannelMessage scope st p).rs = if scope = .none then p.rs else some st := rfl

@[simp] theorem sxFinish_rs (p : Parser) : (sxFinish p).rs = p.rs := by rw [sxFinish_eq]

@[simp] theorem complete_rs (m : Pending) (p : Parser) : (complete m p).rs = p.rs := by
  unfold complete
  split <;> rfl

@[simp] theorem addData_rs (m : Pending) (v : U7) (p : Parser) : (addData m v p).rs = p.rs := by
  unfold addData
  dsimp only
  split
  · exact complete_rs _ p
  · rfl

@[simp] theorem idleData_rs (v : U7) (p : Parser) : (idleData v p).rs = p.rs := by
  unfold idleData
  split
  · exact addData_rs _ v p
  · split
    · exact addData_rs _ v p
    · rfl

/-! ### The effects of the byte rows, on `RS` -/

theorem dataEffect_rs (v : U7) (p : Parser) : (dataEffect v p).rs = p.rs := by
  cases hm : p.mode <;> simp [dataEffect, hm]

/-- A status byte acts as in `Idle`, on the parser itself or on the one that ending the SysEx leaves (R189), whose `RS` is the same. -/
theorem statusByte_eq (idleEffect : Parser → Parser) (p : Parser) :
    ∃ p', p'.rs = p.rs ∧ statusByte idleEffect p = idleEffect p' := by
  cases hm : p.mode with
  | idle => exact ⟨p, rfl, by simp [statusByte, hm]⟩
  | collectingSysEx => exact ⟨sxFinish p, sxFinish_rs p, by simp [statusByte, hm]⟩

theorem statusByte_rs_none {idleEffect : Parser → Parser} (h : ∀ p, (idleEffect p).rs = none) (p : Parser) :
    (statusByte idleEffect p).rs = none := by
  obtain ⟨p', -, he⟩ := statusByte_eq idleEffect p
  rw [he, h]

theorem channelEffect_rs (kind n : U4) {params : Params} {p : Parser} (hp : p.Wf params) :
    (channelEffect kind n params p).rs = if params.rsScope = .none then none else some (pkNib kind n) := by
  obtain ⟨p', hrs, he⟩ := statusByte_eq (openChannelMessage params.rsScope (pkNib kind n)) p
  rw [channelEffect, he, openChannelMessage_rs, hrs]
  split
  case isTrue hscope => exact hp.rsScope hscope
  case isFalse => rfl

theorem eoxEffect_rs {params : Params} {p : Parser} (hp : p.Wf params) : (eoxEffect p).rs = none := by
  cases hm : p.mode with
  | idle => simp [eoxEffect, hm]
  | collectingSysEx => simp [eoxEffect, hm, hp.collectingRs hm]

/-! ### `RS` by the range of the byte -/

/-- What `RS` holds after byte `b` where it held `rs` (R24). -/
def rsAfter (scope : RsScope) (b : Byte) (rs : Option Byte) : Option Byte :=
  if b.toNat < 0x80 then rs
  else if b.toNat ≤ 0xEF then if scope = .none then none else some b
  else if b.toNat ≤ 0xF7 then none
  else rs

section
variable {b : Byte} (scope : RsScope) (rs : Option Byte)

theorem rsAfter_data (h : b.toNat < 0x80) : rsAfter scope b rs = rs := if_pos h

theorem rsAfter_channel (hlo : 0x80 ≤ b.toNat) (hhi : b.toNat ≤ 0xEF) :
    rsAfter scope b rs = if scope = .none then none else some b := by
  rw [rsAfter, if_neg (by omega), if_pos hhi]

theorem rsAfter_systemCommon (hlo : 0xF0 ≤ b.toNat) (hhi : b.toNat ≤ 0xF7) : rsAfter scope b rs = none := by
  rw [rsAfter, if_neg (by omega), if_neg (by omega), if_pos hhi]

theorem rsAfter_realTime (h : 0xF8 ≤ b.toNat) : rsAfter scope b rs = rs := by
  rw [rsAfter, if_neg (by omega), if_neg (by omega), if_neg (by omega)]

end

/-! ### The row of each byte -/

/-- `b` decodes to a byte row that leaves in `RS` what R24 says. -/
def RowWritesRs (b : Byte) : Prop :=
  ∃ effect : Params → Parser → Parser, (∀ s, exec (decode (.byte b)) s = byteRow s effect) ∧
    ∀ params p, p.Wf params → (effect params p).rs = rsAfter params.rsScope b p.rs

theorem rowWritesRs_data {b : Byte} (hb : b.toNat < 0x80) : RowWritesRs b :=
  ⟨fun _ => dataEffect (low7 b), fun s => by rw [decode, decodeByte_data b hb]; rfl,
    fun _ p _ => by rw [dataEffect_rs, rsAfter_data _ _ hb]⟩

theorem rowWritesRs_channel {kind n : U4} (hkind : 0x8 ≤ kind.toNat ∧ kind.toNat ≤ 0xE) {i : Instr}
    (hdecode : decodeByte (pkNib kind n) = i) (hrow : ∀ s, exec i s = byteRow s (channelEffect kind n)) :
    RowWritesRs (pkNib kind n) := by
  refine ⟨channelEffect kind n, fun s => by rw [decode, hdecode, hrow], fun params p hp => ?_⟩
  have hn := n.isLt
  have hb := pkNib_toNat kind n
  rw [channelEffect_rs kind n hp, rsAfter_channel _ _ (by omega) (by omega)]

theorem rowWritesRs_systemCommon {b : Byte} (hb : 0xF0 ≤ b.toNat ∧ b.toNat ≤ 0xF7) (effect : Parser → Parser)
    (hrow : ∀ s, exec (decode (.byte b)) s = byteRow s fun _ => effect)
    (hrs : ∀ params p, p.Wf params → (effect p).rs = none) : RowWritesRs b :=
  ⟨fun _ => effect, hrow, fun params p hp => by rw [hrs params p hp, rsAfter_systemCommon _ _ hb.1 hb.2]⟩

theorem rowWritesRs_statusByte {b : Byte} (hb : 0xF0 ≤ b.toNat ∧ b.toNat ≤ 0xF7) (idleEffect : Parser → Parser)
    (hrow : ∀ s, exec (decode (.byte b)) s = byteRow s fun _ => statusByte idleEffect)
    (hrs : ∀ p, (idleEffect p).rs = none) : RowWritesRs b :=
  rowWritesRs_systemCommon hb _ hrow fun _ p _ => statusByte_rs_none hrs p

theorem rowWritesRs_realTime {b : Byte} (hb : 0xF8 ≤ b.toNat) (effect : Parser → Parser)
    (hrow : ∀ s, exec (decode (.byte b)) s = byteRow s fun _ => effect) (hrs : ∀ p, (effect p).rs = p.rs) :
    RowWritesRs b :=
  ⟨fun _ => effect, hrow, fun _ p _ => by rw [hrs, rsAfter_realTime _ _ hb]⟩

theorem rowWritesRs (b : Byte) : RowWritesRs b := by
  have hchannel := decodeByte_channel
  simp only [forall_and] at hchannel
  obtain ⟨hOff, hOn, hPoly, hControl, hProgram, hPressure, hBend⟩ := hchannel
  rcases byte_cases b with hb | ⟨n, rfl⟩ | ⟨n, rfl⟩ | ⟨n, rfl⟩ | ⟨n, rfl⟩ | ⟨n, rfl⟩ | ⟨n, rfl⟩ | ⟨n, rfl⟩ |
    rfl | rfl | rfl | rfl | rfl | rfl | rfl | rfl | rfl | rfl | rfl | rfl | rfl | rfl | rfl | rfl
  · exact rowWritesRs_data hb
  · exact rowWritesRs_channel (by decide) (hOff n) fun _ => rfl
  · exact rowWritesRs_channel (by decide) (hOn n) fun _ => rfl
  · exact rowWritesRs_channel (by decide) (hPoly n) fun _ => rfl
  · exact rowWritesRs_channel (by decide) (hControl n) fun _ => rfl
  · exact rowWritesRs_channel (by decide) (hProgram n) fun _ => rfl
  · exact rowWritesRs_channel (by decide) (hPressure n) fun _ => rfl
  · exact rowWritesRs_channel (by decide) (hBend n) fun _ => rfl
  · exact rowWritesRs_statusByte (by decide) openSysEx (fun _ => rfl) openSysEx_rs
  · exact rowWritesRs_statusByte (by decide) (openSystemMessage 0xF1#8) (fun _ => rfl) (openSystemMessage_rs _)
  · exact rowWritesRs_statusByte (by decide) (openSystemMessage 0xF2#8) (fun _ => rfl) (openSystemMessage_rs _)
  · exact rowWritesRs_statusByte (by decide) (openSystemMessage 0xF3#8) (fun _ => rfl) (openSystemMessage_rs _)
  · exact rowWritesRs_statusByte (by decide) cancelMessage (fun _ => rfl) cancelMessage_rs
  · exact rowWritesRs_statusByte (by decide) cancelMessage (fun _ => rfl) cancelMessage_rs
  · exact rowWritesRs_statusByte (by decide) _ (fun _ => rfl) cancelMessage_rs
  · exact rowWritesRs_systemCommon (by decide) eoxEffect (fun _ => rfl) fun _ _ => eoxEffect_rs
  · exact rowWritesRs_realTime (by decide) (emit _) (fun _ => rfl) (emit_rs _)
  · exact rowWritesRs_realTime (by decide) (skip _) (fun _ => rfl) (skip_rs _)
  · exact rowWritesRs_realTime (by decide) (emit _) (fun _ => rfl) (emit_rs _)
  · exact rowWritesRs_realTime (by decide) (emit _) (fun _ => rfl) (emit_rs _)
  · exact rowWritesRs_realTime (by decide) (emit _) (fun _ => rfl) (emit_rs _)
  · exact rowWritesRs_realTime (by decide) (skip _) (fun _ => rfl) (skip_rs _)
  · exact rowWritesRs_realTime (by decide) (emit _) (fun _ => rfl) (emit_rs _)
  · exact rowWritesRs_realTime (by decide) (emit _) (fun _ => rfl) (emit_rs _)

/-- Settles O18: the row of the byte writes the parser of the packet, and its effect on `RS` is `rsAfter`. -/
theorem runningStatusAfterEachByte : Obligations.RunningStatusAfterEachByte := by
  intro s h pkt p b hs hp hwf
  obtain ⟨effect, hrow, hrs⟩ := rowWritesRs b
  have hq : (advance (effect s.params p)).rs = rsAfter s.params.rsScope b p.rs := hrs s.params p hwf
  refine ⟨_, (hrow s).trans (byteRow_packet hs hp effect), ?_⟩
  rw [hq]
  exact ⟨rsAfter_data _ _, rsAfter_channel _ _, rsAfter_systemCommon _ _, rsAfter_realTime _ _⟩

end Sys2Proof.Proofs
end

section
/-! PROOFS. Parsers are independent (R35): the results of a step with and without other contents of parser `k` differ at `k` alone, and
`k` is kept. One lemma for each shared operation, then for an operation's row, a byte row, a word row, and the step. -/

namespace Sys2Proof.Proofs

open Sys2Proof.Machine

/-! ### The steps that stop -/

theorem step_noParser {s : State} {h : Nat} {pkt : List Byte} (hs : s.phase = .packet h pkt) (hp : s.parser? h = none) :
    step s = .fault .noSuchParser := by
  simp [step, fetch, hs, hp]

theorem step_emptyGroup {s : State} (hs : s.phase = .group []) : step s = .fault .noPacketOpen := by
  simp [step, fetch, hs]

/-! ### Writes to two parsers -/

theorem setParser_comm (s : State) {h k : Nat} (hk : k ≠ h) (x y : Option Parser) :
    (s.setParser k y).setParser h x = (s.setParser h x).setParser k y := by
  simp [State.setParser, List.set_comm _ _ hk]

/-! ### Results that differ at one parser -/

/-- `r'` is `r` with `q` for the contents `p` of parser `k`: faults and refusals are the same. -/
structure DifferAt (k : Nat) (p q : Parser) (r r' : Result) : Prop where
  replaced : r' = mapNext (fun t => t.setParser k (some q)) r
  kept : ∀ t, r = .next t → t.parser? k = some p

section
variable {s : State} {k : Nat} {p : Parser} (q : Parser)

theorem differAt_fault (f : Fault) : DifferAt k p q (.fault f) (.fault f) := ⟨rfl, nofun⟩

theorem differAt_refused (r : Refusal) : DifferAt k p q (.refused r) (.refused r) := ⟨rfl, nofun⟩

theorem differAt_next (hp : s.parser? k = some p) : DifferAt k p q (.next s) (.next (s.setParser k (some q))) :=
  ⟨rfl, fun _ e => by cases e; exact hp⟩

theorem differAt_reply (hp : s.parser? k = some p) (r : Reply) :
    DifferAt k p q (.next (s.reply r)) (.next ((s.setParser k (some q)).reply r)) :=
  differAt_next q (s := s.reply r) hp

theorem differAt_whenQuiescent {r r' : Result} (h : DifferAt k p q r r') :
    DifferAt k p q (whenQuiescent s r) (whenQuiescent (s.setParser k (some q)) r') := by
  have hphase : (s.setParser k (some q)).phase = s.phase := setParser_phase s k _
  by_cases hs : s.phase = .quiescent
  · rwa [whenQuiescent_quiescent hs, whenQuiescent_quiescent (hphase.trans hs)]
  · rw [whenQuiescent_busy hs, whenQuiescent_busy (hphase ▸ hs)]
    exact differAt_fault q _

theorem differAt_returnOrRaise {α : Type} (hp : s.parser? k = some p) (f : α → Reply) (x : Except CodecError α) :
    DifferAt k p q (returnOrRaise s f x) (returnOrRaise (s.setParser k (some q)) f x) := by
  cases x with
  | ok a => exact differAt_reply q hp (f a)
  | error e => exact differAt_reply q hp (.error e)

theorem differAt_returnOrRefuse {α : Type} (hp : s.parser? k = some p) (f : α → Reply) (x : Except Refusal α) :
    DifferAt k p q (returnOrRefuse s f x) (returnOrRefuse (s.setParser k (some q)) f x) := by
  cases x with
  | ok a => exact differAt_reply q hp (f a)
  | error r => exact differAt_refused q r

theorem differAt_finishDecode (hp : s.parser? k = some p) (r : UmpResult) :
    DifferAt k p q (finishDecode s r) (finishDecode (s.setParser k (some q)) r) := by
  cases r with
  | event e => exact differAt_reply q (s := s.finish) hp _
  | skip reason => exact differAt_reply q (s := s.finish) hp _
  | refused reason => exact differAt_refused q reason

/-- An operation that reads and writes parser `h ≠ k`, then writes something other than the parsers (`f`). -/
theorem differAt_writeOther (hp : s.parser? k = some p) {h : Nat} (hk : k ≠ h) (x : Parser → Option Parser)
    (f : Parser → State → State) (hf : ∀ p' t, f p' (t.setParser k (some q)) = (f p' t).setParser k (some q))
    (hf' : ∀ p' t, (f p' t).parser? k = t.parser? k) :
    DifferAt k p q (withParser s h fun p' => .next (f p' (s.setParser h (x p'))))
      (withParser (s.setParser k (some q)) h fun p' => .next (f p' ((s.setParser k (some q)).setParser h (x p')))) := by
  have hread : (s.setParser k (some q)).parser? h = s.parser? h := parser?_setParser_ne s _ hk.symm
  cases hh : s.parser? h with
  | none =>
    rw [withParser_none hh, withParser_none (hread.trans hh)]
    exact differAt_fault q _
  | some p' =>
    rw [withParser_some hh, withParser_some (hread.trans hh), setParser_comm s hk, hf]
    exact differAt_next q (by rw [hf', parser?_setParser_ne s _ hk, hp])

/-- A new parser stands after all places that exist, so its handle and the places before it are the same. -/
theorem differAt_create (hp : s.parser? k = some p) (x : Option Parser) :
    DifferAt k p q (.next ({ s with parsers := s.parsers ++ [x] }.reply (.parser s.parsers.length)))
      (.next ({ s.setParser k (some q) with parsers := (s.setParser k (some q)).parsers ++ [x] }.reply
        (.parser (s.setParser k (some q)).parsers.length))) := by
  have hlt := lt_of_parser? hp
  have hkept : ({ s with parsers := s.parsers ++ [x] } : State).parser? k = some p := by
    rw [parser?_eq_some, List.getElem?_append_left hlt, parser?_eq_some.mp hp]
  rw [setParser_parsers, List.length_set, ← List.set_append_left k (some q) hlt]
  exact differAt_reply q hkept _

/-! ### The rows and the step -/

theorem differAt_operation (hp : s.parser? k = some p) {i : Instr} (hop : i.isOperation = true)
    (hn : i.names ≠ some k) : DifferAt k p q (exec i s) (exec i (s.setParser k (some q))) := by
  have hother {h : Nat} (hh : i.names = some h) : k ≠ h := fun e => hn (e ▸ hh)
  cases i <;> cases hop
  case m1Reset target noz =>
    refine differAt_whenQuiescent q ?_
    cases target with
    | none => exact differAt_create q hp _
    | some h =>
      exact differAt_writeOther q hp (hother rfl) _ (fun _ t => t.reply (.parser h)) (fun _ _ => rfl) fun _ _ => rfl
  case cfgWrite h v =>
    exact differAt_whenQuiescent q (differAt_writeOther q hp (hother rfl) _ (fun _ t => t.reply .done)
      (fun _ _ => rfl) fun _ _ => rfl)
  case m1Abandon h =>
    exact differAt_whenQuiescent q (differAt_writeOther q hp (hother rfl) _ (fun _ t => t.reply .done)
      (fun _ _ => rfl) fun _ _ => rfl)
  case m1Packet h bytes ts =>
    exact differAt_whenQuiescent q (differAt_writeOther q hp (hother rfl) _ (fun _ t => { t with phase := .packet h bytes })
      (fun _ _ => rfl) fun _ _ => rfl)
  case m2Decode words ts protocol =>
    refine differAt_whenQuiescent q ?_
    cases words with
    | nil => exact differAt_reply q (s := s.finish) hp _
    | cons w ws => exact differAt_next q (s := { s with phase := .group (w :: ws) }) hp
  case packM1 e => exact differAt_returnOrRefuse q hp .bytes (packM1 e)
  case packUmp e protocol => exact differAt_returnOrRefuse q hp .groups (packUmp protocol e)
  case opReservedF => exact differAt_refused q _
  case sx7FromBytes => exact differAt_returnOrRaise q hp .event _
  case bp32Enc => exact differAt_returnOrRaise q hp .raw _
  case u4Check => exact differAt_returnOrRaise q hp .uint4 _
  case u7Check => exact differAt_returnOrRaise q hp .uint7 _
  case evMake => exact differAt_returnOrRaise q hp .event _
  case bp32Dec => exact differAt_reply q hp _
  case mfrValid => exact differAt_reply q hp _
  case evEq => exact differAt_reply q hp _

theorem differAt_byteRow (hp : s.parser? k = some p) (hk : ∀ pkt, s.phase ≠ .packet k pkt)
    (f : Params → Parser → Parser) : DifferAt k p q (byteRow s f) (byteRow (s.setParser k (some q)) f) := by
  unfold byteRow
  rw [setParser_phase]
  cases hs : s.phase with
  | quiescent => exact differAt_fault q _
  | group ws => exact differAt_fault q _
  | packet h pkt =>
    have hne : k ≠ h := by rintro rfl; exact hk pkt hs
    exact differAt_writeOther q hp hne _ (fun _ t => t) (fun _ _ => rfl) fun _ _ => rfl

theorem differAt_umpRow (hp : s.parser? k = some p) (n : Nat) (read : List Word → UmpResult) :
    DifferAt k p q (umpRow s n read) (umpRow (s.setParser k (some q)) n read) := by
  unfold umpRow
  rw [setParser_phase]
  cases s.phase with
  | quiescent => exact differAt_fault q _
  | packet h pkt => exact differAt_fault q _
  | group ws => exact differAt_finishDecode q hp _

theorem differAt_step (hp : s.parser? k = some p) (hk : ∀ pkt, s.phase ≠ .packet k pkt)
    (hn : ¬ (s.phase = .quiescent ∧ s.headNames k)) : DifferAt k p q (step s) (step (s.setParser k (some q))) := by
  obtain ⟨phase, hs⟩ : ∃ phase, s.phase = phase := ⟨_, rfl⟩
  have hs' : (s.setParser k (some q)).phase = phase := hs
  cases phase with
  | quiescent =>
    obtain ⟨requests, hr⟩ : ∃ requests, s.requests = requests := ⟨_, rfl⟩
    have hr' : (s.setParser k (some q)).requests = requests := hr
    cases requests with
    | nil =>
      rw [step_wait hs hr, step_wait hs' hr']
      exact differAt_next q hp
    | cons r rest =>
      have hnames : (decodeOp r).names ≠ some k := fun e => hn ⟨hs, r, rest, hr, e⟩
      rw [step_operation hs hr, step_operation hs' hr']
      exact differAt_operation q (s := { s with requests := rest }) hp (decodeOp_isOperation r) hnames
  | packet h pkt =>
    have hne : k ≠ h := by rintro rfl; exact hk pkt hs
    have hread : (s.setParser k (some q)).parser? h = s.parser? h := parser?_setParser_ne s _ hne.symm
    cases hh : s.parser? h with
    | none =>
      rw [step_noParser hs hh, step_noParser hs' (hread.trans hh)]
      exact differAt_fault q _
    | some p' =>
      cases hb : pkt[p'.cur]? with
      | some b =>
        obtain ⟨effect, hrow, -⟩ := rowWritesRs b
        rw [step_byte hs hh hb, step_byte hs' (hread.trans hh) hb, hrow, hrow]
        exact differAt_byteRow q hp hk effect
      | none =>
        have hend := List.getElem?_eq_none_iff.mp hb
        rw [step_packetEnd hs hh hend, step_packetEnd hs' (hread.trans hh) hend, setParser_comm s hne]
        exact differAt_reply q (s := (s.setParser h _).finish) ((parser?_setParser_ne s _ hne).trans hp) _
  | group ws =>
    cases ws with
    | nil =>
      rw [step_emptyGroup hs, step_emptyGroup hs']
      exact differAt_fault q _
    | cons w ws =>
      obtain ⟨n, read, hrow⟩ := decodeWord_umpRow w
      rw [step_word hs, step_word hs', decode, hrow, hrow]
      exact differAt_umpRow q hp n read

end

/-- Settles O26: the result of the step with `q` for `p` differs at `k` alone. -/
theorem instancesAreIndependent : Obligations.InstancesAreIndependent := by
  intro s k p q hp hk hn
  obtain ⟨hreplaced, hkept⟩ := differAt_step q hp hk hn
  exact ⟨hreplaced, hkept⟩

end Sys2Proof.Proofs
end

section
/-! PROOFS. The opcode table (R84): a decoded input encodes to itself, and no two rows of the table fit one input. -/

namespace Sys2Proof.Proofs

open Sys2Proof.Machine Sys2Proof.Laws

/-! ### The encoding of a decoded input -/

theorem encode_decodeByte : ∀ b : Byte, encode (decodeByte b) = .byte b := by decide

/-- The encoder writes the status byte that was decoded. -/
theorem word_congr_byte1 {mt group : U4} {b b1 b2 b3 : Byte} (h : b = b1) :
    Encoded.word (pkWord (pkNib mt group) b b2 b3) = .word (pkWord (pkNib mt group) b1 b2 b3) := by rw [h]

/-- The encoder writes the status nibble that was decoded. -/
theorem word_congr_status {mt group k status channel : U4} {b2 b3 : Byte} (h : k = status) :
    Encoded.word (pkWord (pkNib mt group) (pkNib k channel) b2 b3) =
      .word (pkWord (pkNib mt group) (pkNib status channel) b2 b3) := word_congr_byte1 (by rw [h])

/-- The encoder writes the select code that was decoded, whatever ports it leaves. -/
theorem op_congr_opsel {c opsel : BitVec 4} {ports : Ports} (h : c = opsel) :
    ∃ ports', Encoded.op ⟨c, ports⟩ = .op ⟨opsel, ports'⟩ := ⟨ports, by rw [h]⟩

/-- In each branch of the decoder the encoder's status byte agrees with the status bits the branch has read and kept. -/
theorem encode_decodeSys1 (group : U4) (b1 b2 b3 : Byte) :
    encode (decodeSys1 group b1 b2 b3) = .word (pkWord (pkNib 0x1#4 group) b1 b2 b3) := by
  unfold decodeSys1
  repeat' split
  all_goals
    refine word_congr_byte1 ?_
    revert b1
    decide

theorem encode_decodeCv1 (group status channel : U4) (b2 b3 : Byte) :
    encode (decodeCv1 group status channel b2 b3) = .word (pkWord (pkNib 0x2#4 group) (pkNib status channel) b2 b3) := by
  unfold decodeCv1
  split
  all_goals
    refine word_congr_status ?_
    revert status
    decide

theorem encode_decodeSx7 (group status nbytes : U4) (b2 b3 : Byte) :
    encode (decodeSx7 group status nbytes b2 b3) = .word (pkWord (pkNib 0x3#4 group) (pkNib status nbytes) b2 b3) := by
  unfold decodeSx7
  split
  all_goals
    refine word_congr_status ?_
    revert status
    decide

theorem encode_decodeCv2 (group status channel : U4) (b2 b3 : Byte) :
    encode (decodeCv2 group status channel b2 b3) = .word (pkWord (pkNib 0x4#4 group) (pkNib status channel) b2 b3) := by
  unfold decodeCv2
  split
  all_goals
    refine word_congr_status ?_
    revert status
    decide

/-- A word from its message type, its group and its other bytes. -/
theorem pkWord_of_wordMt {w : Word} {mt : U4} (h : wordMt w = mt) :
    pkWord (pkNib mt (wordGroup w)) (wordByte1 w) (wordByte2 w) (wordByte3 w) = w := by
  rw [← h, wordMt, wordGroup, pkNib_hiNib_loNib, pkWord_wordBytes]

theorem pkTop_of_wordMt {w : Word} {mt : U4} (h : wordMt w = mt) : pkTop mt (wordGroup w) (wordRest w) = w := by
  rw [← h, pkTop_fields]

theorem encode_decodeWord (w : Word) : encode (decodeWord w) = .word w := by
  unfold decodeWord
  dsimp only
  split
  case h_2 hmt => rw [encode_decodeSys1, pkWord_of_wordMt (BitVec.eq_of_toNat_eq hmt)]
  case h_3 hmt => rw [encode_decodeCv1, pkNib_hiNib_loNib, pkWord_of_wordMt (BitVec.eq_of_toNat_eq hmt)]
  case h_4 hmt => rw [encode_decodeSx7, pkNib_hiNib_loNib, pkWord_of_wordMt (BitVec.eq_of_toNat_eq hmt)]
  case h_5 hmt => rw [encode_decodeCv2, pkNib_hiNib_loNib, pkWord_of_wordMt (BitVec.eq_of_toNat_eq hmt)]
  all_goals
    refine congrArg Encoded.word (pkTop_of_wordMt ?_)
    generalize wordMt w = mt at *
    revert mt
    decide

/-- Only the select code comes back: the encoding has no port that the operation does not read. -/
theorem encode_decodeOp (r : Request) : ∃ ports, encode (decodeOp r) = .op ⟨r.opsel, ports⟩ := by
  obtain ⟨opsel, ports⟩ := r
  unfold decodeOp
  dsimp only
  split
  all_goals
    refine op_congr_opsel ?_
    revert opsel
    decide

/-! ### A row fits every input -/

/-- Every instruction's encoding fits the row of its mnemonic. -/
theorem tableRow (i : Instr) : TableRow.Statement i := by
  cases i
  exacts [TableRow.data .., TableRow.noteOff .., TableRow.noteOn .., TableRow.polyPressure ..,
    TableRow.controlChange .., TableRow.programChange .., TableRow.channelPressure .., TableRow.pitchBend ..,
    TableRow.sox, TableRow.mtcQf, TableRow.songPos, TableRow.songSel, TableRow.undefF4, TableRow.undefF5,
    TableRow.tuneReq, TableRow.eox, TableRow.clock, TableRow.undefF9, TableRow.start, TableRow.continue_,
    TableRow.stop, TableRow.undefFD, TableRow.activeSense, TableRow.sysReset, TableRow.umpMtcQf ..,
    TableRow.umpSongPos .., TableRow.umpSongSel .., TableRow.umpTuneReq .., TableRow.umpClock .., TableRow.umpStart ..,
    TableRow.umpContinue .., TableRow.umpStop .., TableRow.umpActiveSense .., TableRow.umpSysReset ..,
    TableRow.sys1Unrec00_7F .., TableRow.sys1Unrec80_BF .., TableRow.sys1UnrecC0_DF .., TableRow.sys1UnrecE0_EF ..,
    TableRow.sys1UnrecF0 .., TableRow.sys1UnrecF4 .., TableRow.sys1UnrecF5 .., TableRow.sys1UnrecF7 ..,
    TableRow.sys1UnrecF9 .., TableRow.sys1UnrecFD .., TableRow.umpNoteOff .., TableRow.umpNoteOn ..,
    TableRow.umpPolyPressure .., TableRow.umpControlChange .., TableRow.umpProgramChange ..,
    TableRow.umpChannelPressure .., TableRow.umpPitchBend .., TableRow.cv1Unrec0_7 .., TableRow.cv1UnrecF ..,
    TableRow.sx7Complete .., TableRow.sx7Start .., TableRow.sx7Continue .., TableRow.sx7End ..,
    TableRow.sx7Reserved4_7 .., TableRow.sx7Reserved8_F .., TableRow.m2RegPnCtrl .., TableRow.m2AsgPnCtrl ..,
    TableRow.m2RegCtrl .., TableRow.m2AsgCtrl .., TableRow.m2RelRegCtrl .., TableRow.m2RelAsgCtrl ..,
    TableRow.m2PnPitchBend .., TableRow.m2Reserved7 .., TableRow.m2NoteOff .., TableRow.m2NoteOn ..,
    TableRow.m2PolyPressure .., TableRow.m2ControlChange .., TableRow.m2ProgramChange ..,
    TableRow.m2ChannelPressure .., TableRow.m2PitchBend .., TableRow.m2PnManagement .., TableRow.d128 ..,
    TableRow.unrecMt0 .., TableRow.unrecMt6 .., TableRow.unrecMt7 .., TableRow.unrecMt8 .., TableRow.unrecMt9 ..,
    TableRow.unrecMtA .., TableRow.unrecMtB .., TableRow.unrecMtC .., TableRow.unrecMtD .., TableRow.unrecMtE ..,
    TableRow.unrecMtF .., TableRow.m1Reset .., TableRow.cfgWrite .., TableRow.m1Packet .., TableRow.sx7FromBytes ..,
    TableRow.m2Decode .., TableRow.packM1 .., TableRow.packUmp .., TableRow.bp32Enc .., TableRow.bp32Dec ..,
    TableRow.u4Check .., TableRow.u7Check .., TableRow.mfrValid .., TableRow.evMake .., TableRow.evEq ..,
    TableRow.m1Abandon .., TableRow.opReservedF]

/-- A row reads no port, so it is nothing to it that the encoding keeps only those the operation reads. -/
theorem fits_encode_decode (r : Row) (e : Encoded) : r.fits (encode (decode e)) = r.fits e := by
  cases e with
  | byte b => rw [decode, encode_decodeByte]
  | word w => rw [decode, encode_decodeWord]
  | op q =>
    obtain ⟨ports, h⟩ := encode_decodeOp q
    rw [decode, h]
    rfl

/-! ### No two rows fit one input -/

/-- The width of a format's rows, in bits (R84). -/
def fmtWidth : Fmt → Nat
  | .m1b => 8
  | .op => 4
  | _ => 32

/-- The width of what is decoded, in bits. -/
def encodedWidth : Encoded → Nat
  | .byte _ => 8
  | .word _ => 32
  | .op _ => 4

/-- The bits a row is compared with: a byte, a word or a select code, in the low bits. -/
def encodedBits : Encoded → Word
  | .byte b => b.setWidth 32
  | .word w => w
  | .op q => q.opsel.setWidth 32

/-- `(x & mask) = match` of R84, with the kind of input told by its width. -/
theorem fits_iff (r : Row) (e : Encoded) :
    r.fits e = true ↔ fmtWidth r.fmt = encodedWidth e ∧ encodedBits e &&& r.mask = r.pattern := by
  obtain ⟨_, fmt, _, _⟩ := r
  cases e <;> cases fmt <;> simp [Row.fits, fmtWidth, encodedWidth, encodedBits]

/-- The rows are of different widths, or their patterns differ in a bit that both masks select. -/
def apart (r r' : Row) : Bool :=
  fmtWidth r.fmt != fmtWidth r'.fmt || r.pattern &&& r'.mask != r'.pattern &&& r.mask

theorem apart_symm {r r' : Row} (h : apart r r' = true) : apart r' r = true := by
  simpa [apart, ne_comm] using h

theorem not_apart_of_fits {r r' : Row} {e : Encoded} (h : r.fits e = true) (h' : r'.fits e = true) :
    ¬ apart r r' = true := by
  obtain ⟨hw, hp⟩ := (fits_iff r e).1 h
  obtain ⟨hw', hp'⟩ := (fits_iff r' e).1 h'
  simp [apart, hw, hw', ← hp, ← hp', BitVec.and_assoc, BitVec.and_comm r.mask]

theorem opcodeTable_pairwise_apart : opcodeTable.Pairwise (apart · ·) := by decide

/-- Different rows of the table are apart, and no input fits two rows that are. -/
theorem row_unique {r r' : Row} {e : Encoded} (hr : r ∈ opcodeTable) (hr' : r' ∈ opcodeTable)
    (h : r.fits e = true) (h' : r'.fits e = true) : r' = r := by
  have : Std.Symm fun r r' => apart r r' = true := ⟨fun _ _ => apart_symm⟩
  by_contra hne
  exact not_apart_of_fits h' h (opcodeTable_pairwise_apart.forall hr' hr hne)

/-- Settles O2: the row is the one of the decoded instruction, whose encoding is the input; no two rows fit one input. -/
theorem oneTableRowPerInput : Obligations.OneTableRowPerInput := by
  intro e
  obtain ⟨r, hr, hmnemonic, hfits⟩ := tableRow (decode e)
  rw [fits_encode_decode] at hfits
  exact ⟨r, hr, hfits, hmnemonic, fun r' hr' hfits' => row_unique hr hr' hfits hfits'⟩

end Sys2Proof.Proofs
end

section
/-! PROOFS. What the scaler's proofs need of `RN64` (R12): its fixed points are the binary64 values, it is monotonic, and it is near. -/

namespace Sys2Proof.Proofs

open Sys2Proof.Machine

/-! ### Binary64 values -/

theorem isBinary64_div_two_pow {n : Int} (hn : |n| < 2 ^ 53) {k : Nat} (hk : k ≤ 1074) : IsBinary64 (n / 2 ^ k) :=
  ⟨n, -k, hn, by omega, by rw [zpow_neg, zpow_natCast, div_eq_mul_inv]⟩

theorem isBinary64_intCast {n : Int} (hn : |n| < 2 ^ 53) : IsBinary64 n :=
  ⟨n, 0, hn, by norm_num, by simp⟩

theorem isBinary64_mul_two_pow {x : Rat} (hx : IsBinary64 x) (k : Nat) : IsBinary64 (x * 2 ^ k) := by
  obtain ⟨m, e, hm, he, rfl⟩ := hx
  refine ⟨m, e + k, hm, by omega, ?_⟩
  rw [zpow_add₀ two_ne_zero, zpow_natCast, mul_assoc]

theorem isBinary64_abs {x : Rat} (hx : IsBinary64 x) : IsBinary64 |x| := by
  rcases abs_choice x with h | h <;> rw [h]
  · exact hx
  · exact isBinary64_neg hx

/-! ### `RN64` -/

theorem isBinary64_rn64 (q : Rat) : IsBinary64 (rn64 q) := (rn64IsNearest q).1

theorem abs_rn64_sub_le_of_isBinary64 (q : Rat) {x : Rat} (hx : IsBinary64 x) : |rn64 q - q| ≤ |x - q| :=
  ((rn64IsNearest q).2 x hx).1

theorem rn64_eq_self_iff {x : Rat} : rn64 x = x ↔ IsBinary64 x where
  mp h := h ▸ isBinary64_rn64 x
  mpr hx := by simpa [sub_eq_zero] using abs_rn64_sub_le_of_isBinary64 x hx

/-- A rational nearer to the greater of two values is not below one that is nearer to the smaller. -/
theorem le_of_nearer {x y a b : Rat} (hxy : x < y) (ha : |x - a| ≤ |y - a|) (hb : |y - b| ≤ |x - b|) : a ≤ b := by
  have hsqa : (x - a) ^ 2 ≤ (y - a) ^ 2 := sq_le_sq.mpr ha
  have hsqb : (y - b) ^ 2 ≤ (x - b) ^ 2 := sq_le_sq.mpr hb
  nlinarith

/-- Were the order of `a ≤ b` turned round, `a` and `b` would be the same. -/
theorem rn64_mono : Monotone rn64 := by
  intro a b hab
  by_contra! hlt
  have hba : b ≤ a := le_of_nearer hlt (abs_rn64_sub_le_of_isBinary64 b (isBinary64_rn64 a))
    (abs_rn64_sub_le_of_isBinary64 a (isBinary64_rn64 b))
  obtain rfl := le_antisymm hab hba
  exact lt_irrefl _ hlt

theorem abs_div_sub_eq {d : Rat} (hd : 0 < d) (a q : Rat) : |a / d - q| = |a - q * d| / d := by
  rw [div_sub' hd.ne', abs_div, abs_of_pos hd, mul_comm d q]

/-- A multiple of `2 ^ -k` lies within `2 ^ -k`, and below `2 ^ (53 - k)` it is a binary64 value. -/
theorem abs_rn64_sub_le {q : Rat} (hq : 0 ≤ q) {k : Nat} (hk : k ≤ 1074) (hlt : q * 2 ^ k < 2 ^ 53) :
    |rn64 q - q| ≤ 1 / 2 ^ k := by
  have hfloor : (⌊q * 2 ^ k⌋ : Rat) ≤ q * 2 ^ k := Int.floor_le _
  have hgrid : IsBinary64 (⌊q * 2 ^ k⌋ / 2 ^ k) := by
    refine isBinary64_div_two_pow ?_ hk
    rw [abs_of_nonneg (Int.floor_nonneg.mpr (by positivity))]
    exact_mod_cast hfloor.trans_lt hlt
  calc |rn64 q - q| ≤ |⌊q * 2 ^ k⌋ / 2 ^ k - q| := abs_rn64_sub_le_of_isBinary64 q hgrid
    _ = |⌊q * 2 ^ k⌋ - q * 2 ^ k| / 2 ^ k := abs_div_sub_eq (by positivity) _ q
    _ ≤ 1 / 2 ^ k := by
      gcongr
      rw [abs_le]
      constructor <;> linarith [Int.lt_floor_add_one (q * 2 ^ k)]

end Sys2Proof.Proofs
end

section
/-! PROOFS. The Bipolar32 scaler (R110 to R118): the product under each setting of `SCALER_ARITH`, the word of each branch of the encoding,
the rational of each half of the decoding, and the obligations about them. -/

namespace Sys2Proof.Proofs

open Sys2Proof.Machine

/-! ### The clamp (R111) -/

theorem clamp_finite_of_lt {q : Rat} (h : q < -1) : clamp (.finite q) = some (-1) := by simp [clamp, h]

theorem clamp_finite_of_gt {q : Rat} (h : 1 < q) : clamp (.finite q) = some 1 := by
  have hlow : ¬ q < -1 := by linarith
  simp [clamp, h, hlow]

theorem clamp_finite_of_mem {q : Rat} (hlo : -1 ≤ q) (hhi : q ≤ 1) : clamp (.finite q) = some q := by
  simp [clamp, hlo.not_gt, hhi.not_gt]

theorem clamp_mem {v : Real64} {c : Rat} (h : clamp v = some c) : -1 ≤ c ∧ c ≤ 1 := by
  cases v with
  | nan => simp [clamp] at h
  | negInf => cases h; norm_num
  | posInf => cases h; norm_num
  | finite q =>
    rcases lt_or_ge q (-1) with hlow | hlo
    · cases (clamp_finite_of_lt hlow).symm.trans h
      norm_num
    · rcases lt_or_ge 1 q with hhigh | hhi
      · cases (clamp_finite_of_gt hhigh).symm.trans h
        norm_num
      · cases (clamp_finite_of_mem hlo hhi).symm.trans h
        exact ⟨hlo, hhi⟩

/-! ### The product (R115) -/

/-- The product that a setting of `SCALER_ARITH` forms. -/
def product : ScalerArith → Rat → Rat → Rat
  | .exact => mulExact
  | .binary64 => mul64

/-- The operands a setting of `SCALER_ARITH` is stated for: under `BINARY64` the binary64 values. -/
def IsOperand (arith : ScalerArith) (c : Rat) : Prop := arith = .binary64 → rn64 c = c

theorem isOperand_exact (c : Rat) : IsOperand .exact c := nofun

theorem isOperand_binary64 {c : Rat} : IsOperand .binary64 c ↔ IsBinary64 c := by simp [IsOperand, rn64_eq_self_iff]

theorem isOperand_of_isBinary64 (arith : ScalerArith) {c : Rat} (hc : IsBinary64 c) : IsOperand arith c :=
  fun _ => rn64_eq_self_iff.mpr hc

@[simp] theorem product_exact (a b : Rat) : product .exact a b = a * b := rfl
@[simp] theorem product_binary64 (a b : Rat) : product .binary64 a b = rn64 (a * b) := rfl

section
variable (arith : ScalerArith)

theorem product_eq_mul {a b : Rat} (h : IsBinary64 (a * b)) : product arith a b = a * b := by
  cases arith with
  | exact => rfl
  | binary64 => exact rn64_eq_self_iff.mpr h

theorem product_mono {a a' b : Rat} (hb : 0 ≤ b) (h : a ≤ a') : product arith a b ≤ product arith a' b := by
  have hmul : a * b ≤ a' * b := mul_le_mul_of_nonneg_right h hb
  cases arith with
  | exact => exact hmul
  | binary64 => exact rn64_mono hmul

/-- The products of the upper branch lie between those of the ends 0 and 1. -/
theorem product_mem {c : Rat} (hlo : 0 ≤ c) (hhi : c ≤ 1) :
    0 ≤ product arith c 0x7FFFFFFF ∧ product arith c 0x7FFFFFFF ≤ 0x7FFFFFFF := by
  have h0 : product arith 0 0x7FFFFFFF = 0 := by
    rw [product_eq_mul arith (by simpa using isBinary64_intCast (n := 0) (by norm_num)), zero_mul]
  have h1 : product arith 1 0x7FFFFFFF = 0x7FFFFFFF := by
    rw [product_eq_mul arith (by simpa using isBinary64_intCast (n := 0x7FFFFFFF) (by norm_num)), one_mul]
  exact ⟨h0.ge.trans (product_mono arith (by norm_num) hlo), (product_mono arith (by norm_num) hhi).trans h1.le⟩

theorem abs_product_sub_le {c : Rat} (hlo : 0 ≤ c) (hhi : c ≤ 1) :
    |product arith c 0x7FFFFFFF - c * 0x7FFFFFFF| ≤ 1 / 4 := by
  cases arith with
  | exact => simp
  | binary64 =>
    have h := abs_rn64_sub_le (q := c * 0x7FFFFFFF) (by positivity) (k := 2) (by norm_num) (by linarith)
    rw [product_binary64]
    linarith

end

/-- Scaling by a power of two is exact in binary64. -/
theorem product_two_pow_31 {arith : ScalerArith} {c : Rat} (hc : IsOperand arith c) :
    product arith |c| 0x80000000 = |c| * 0x80000000 := by
  cases arith with
  | exact => rfl
  | binary64 =>
    rw [show (0x80000000 : Rat) = 2 ^ 31 by norm_num]
    exact product_eq_mul _ (isBinary64_mul_two_pow (isBinary64_abs (isOperand_binary64.mp hc)) 31)

/-! ### Encoding (R112) -/

theorem exec_bp32Enc (v : Real64) (s : State) :
    exec (.bp32Enc v) s = returnOrRaise s .raw (bp32Encode s.params.scalerArith v) := rfl

theorem bp32Encode_nan (arith : ScalerArith) : bp32Encode arith .nan = .error (.outOfRangeValue .bipolar32 none .nan) := rfl

theorem bp32Encode_of_operand {arith : ScalerArith} {v : Real64} {c : Rat} (hv : clamp v = some c) (hc : IsOperand arith c) :
    bp32Encode arith v = .ok (scale (product arith) c) := by
  cases arith with
  | exact => simp only [bp32Encode, hv]; rfl
  | binary64 => simp only [bp32Encode, hv, if_pos (hc rfl)]; rfl

theorem exec_bp32Enc_of_operand {s : State} {v : Real64} {c : Rat} (hv : clamp v = some c)
    (hc : IsOperand s.params.scalerArith c) :
    exec (.bp32Enc v) s = .next (s.reply (.raw (scale (product s.params.scalerArith) c))) := by
  rw [exec_bp32Enc, bp32Encode_of_operand hv hc, returnOrRaise_ok]

theorem toNat_ofInt_32 {z : Int} (hlo : 0 ≤ z) (hhi : z < 2 ^ 32) : ((BitVec.ofInt 32 z).toNat : Int) = z := by
  rw [BitVec.toNat_ofInt]
  omega

/-- `round(q)` of R113. -/
theorem roundHalfUp_eq_floor (q : Rat) : roundHalfUp q = ⌊q + 1 / 2⌋ := rfl

theorem abs_floor_add_half_sub_le (q : Rat) : |(⌊q + 1 / 2⌋ : Rat) - q| ≤ 1 / 2 := by
  rw [abs_le]
  constructor
  · linarith [Int.lt_floor_add_one (q + 1 / 2)]
  · linarith [Int.floor_le (q + 1 / 2)]

theorem floor_add_half_mem {q : Rat} {n : Int} (hlo : 0 ≤ q) (hhi : q ≤ n) : 0 ≤ ⌊q + 1 / 2⌋ ∧ ⌊q + 1 / 2⌋ ≤ n := by
  refine ⟨Int.floor_nonneg.mpr (by linarith), Int.lt_add_one_iff.mp (Int.floor_lt.mpr ?_)⟩
  push_cast
  linarith

theorem floor_product_mem (arith : ScalerArith) {c : Rat} (hlo : 0 ≤ c) (hhi : c ≤ 1) :
    0 ≤ ⌊product arith c 0x7FFFFFFF + 1 / 2⌋ ∧ ⌊product arith c 0x7FFFFFFF + 1 / 2⌋ ≤ 0x7FFFFFFF := by
  obtain ⟨h0, h1⟩ := product_mem arith hlo hhi
  exact floor_add_half_mem h0 (by simpa using h1)

theorem floor_lower_mem {c : Rat} (hc : |c| ≤ 1) :
    0 ≤ ⌊|c| * 0x80000000 + 1 / 2⌋ ∧ ⌊|c| * 0x80000000 + 1 / 2⌋ ≤ 0x80000000 :=
  floor_add_half_mem (by positivity) (by push_cast; linarith)

/-- The word of the upper branch. -/
theorem scale_of_pos (arith : ScalerArith) {c : Rat} (hpos : 0 < c) (hhi : c ≤ 1) :
    ((scale (product arith) c).toNat : Int) = 0x80000000 + ⌊product arith c 0x7FFFFFFF + 1 / 2⌋ := by
  have hfloor := floor_product_mem arith hpos.le hhi
  rw [scale, if_pos hpos, roundHalfUp_eq_floor]
  exact toNat_ofInt_32 (by omega) (by omega)

/-- The lower branch forms no product that binary64 would round. -/
theorem scale_of_nonpos {arith : ScalerArith} {c : Rat} (hc : IsOperand arith c) (hlo : -1 ≤ c) (hnp : c ≤ 0) :
    ((scale (product arith) c).toNat : Int) = 0x80000000 - ⌊|c| * 0x80000000 + 1 / 2⌋ := by
  have hfloor := floor_lower_mem (abs_le.mpr ⟨hlo, by linarith⟩)
  rw [scale, if_neg hnp.not_gt, roundHalfUp_eq_floor, absRat_eq_abs, product_two_pow_31 hc]
  exact toNat_ofInt_32 (by omega) (by omega)

/-- Settles O38: the branches of the clamp, and the word of each branch of the encoding with the exact product. -/
theorem scalerEncodes : Obligations.ScalerEncodes := by
  refine ⟨⟨rfl, rfl, fun q => ⟨clamp_finite_of_lt, clamp_finite_of_gt, clamp_finite_of_mem⟩⟩, fun s => ⟨?_, ?_⟩⟩
  · rw [exec_bp32Enc, bp32Encode_nan, returnOrRaise_error]
  · intro harith v c hv
    obtain ⟨hlo, hhi⟩ := clamp_mem hv
    have hc := isOperand_exact c
    refine ⟨scale (product .exact) c, ?_, fun hpos => scale_of_pos .exact hpos hhi, fun hnp => scale_of_nonpos hc hlo hnp⟩
    rw [← harith] at hc ⊢
    exact exec_bp32Enc_of_operand hv hc

/-- Settles O42: the word of each branch with the rounded product, which on the lower branch is the exact one; on the example the rounding
carries the product over a half. -/
theorem scalerArithmetics : Obligations.ScalerArithmetics := by
  intro s harith
  refine ⟨fun v c hv hc => ?_, ?_, by decide +kernel⟩
  · obtain ⟨hlo, hhi⟩ := clamp_mem hv
    have hop : IsOperand .binary64 c := fun _ => hc
    have hlower (hnp : c ≤ 0) := scale_of_nonpos hop hlo hnp
    refine ⟨scale (product .binary64) c, ?_, fun hpos => scale_of_pos .binary64 hpos hhi, fun hnp => ?_, fun hnp => ?_⟩
    · rw [exec_bp32Enc, harith, bp32Encode_of_operand hv hop, returnOrRaise_ok]
    · rw [hlower hnp, ← product_binary64, product_two_pow_31 hop]
    · rw [bp32Encode_of_operand hv (isOperand_exact c)]
      refine congrArg _ (BitVec.eq_of_toNat_eq ?_)
      exact_mod_cast (scale_of_nonpos (isOperand_exact c) hlo hnp).trans (hlower hnp).symm
  · have h : bp32Encode .binary64 (.finite (1 / 2 + 1 / 2147483648)) = .ok 0xC0000001#32 := by decide +kernel
    rw [exec_bp32Enc, harith, h, returnOrRaise_ok]

/-! ### Decoding (R114) -/

theorem exec_bp32Dec (raw : U32) (s : State) :
    exec (.bp32Dec raw) s = .next (s.reply (.value (bp32Decode raw) (port64 (bp32Decode raw)))) := rfl

/-- The upper formula gives the midpoint too. -/
theorem bp32Decode_upper {raw : U32} (h : 0x80000000 ≤ raw.toNat) :
    bp32Decode raw = ((raw.toNat : Rat) - 0x80000000) / 0x7FFFFFFF := by
  rcases h.lt_or_eq with hlt | heq
  · exact if_pos hlt
  · simp [bp32Decode, ← heq]

theorem bp32Decode_lower {raw : U32} (h : raw.toNat ≤ 0x80000000) :
    bp32Decode raw = -((0x80000000 - (raw.toNat : Rat)) / 0x80000000) := if_neg h.not_gt

theorem bp32Decode_midpoint : bp32Decode 0x80000000#32 = 0 := by
  rw [bp32Decode_lower (by decide)]
  norm_num

theorem port64_zero : port64 0 = ⟨false, 0⟩ := by simp [port64]

/-- Settles O40: the two halves of the decoding; the port has the sign of the rational and its rounded absolute value. -/
theorem scalerDecodes : Obligations.ScalerDecodes := by
  intro s raw
  refine ⟨_, _, exec_bp32Dec raw s, fun h => bp32Decode_upper h.le, bp32Decode_lower, absRat_eq_abs _, decide_eq_true_iff, ?_⟩
  rintro rfl
  rw [bp32Decode_midpoint, port64_zero]

/-- Between the halves lies the midpoint, which decodes to 0. -/
theorem bp32Decode_strictMono {r1 r2 : U32} (h : r1.toNat < r2.toNat) : bp32Decode r1 < bp32Decode r2 := by
  have hcast : (r1.toNat : Rat) < r2.toNat := by exact_mod_cast h
  rcases le_or_gt r2.toNat 0x80000000 with h2 | h2
  · rw [bp32Decode_lower h2, bp32Decode_lower (by omega)]
    linarith
  · have hmid : (0x80000000 : Rat) < r2.toNat := by exact_mod_cast h2
    rw [bp32Decode_upper h2.le]
    rcases le_or_gt r1.toNat 0x80000000 with h1 | h1
    · have hmid' : (r1.toNat : Rat) ≤ 0x80000000 := by exact_mod_cast h1
      rw [bp32Decode_lower h1]
      linarith
    · rw [bp32Decode_upper h1.le]
      linarith

theorem bp32Decode_mem (raw : U32) : -1 ≤ bp32Decode raw ∧ bp32Decode raw ≤ 1 := by
  rcases le_or_gt raw.toNat 0x80000000 with h | h
  · have hmid : (raw.toNat : Rat) ≤ 0x80000000 := by exact_mod_cast h
    have hnonneg : (0 : Rat) ≤ raw.toNat := raw.toNat.cast_nonneg
    rw [bp32Decode_lower h]
    constructor <;> linarith
  · have hmid : (0x80000000 : Rat) < raw.toNat := by exact_mod_cast h
    have hlast : (raw.toNat : Rat) ≤ 0xFFFFFFFF := by exact_mod_cast Nat.le_of_lt_succ raw.isLt
    rw [bp32Decode_upper h.le]
    constructor <;> linarith

/-! ### Monotonicity (R118) -/

theorem scale_mono {arith : ScalerArith} {c1 c2 : Rat} (hc1 : IsOperand arith c1) (hc2 : IsOperand arith c2)
    (hlo : -1 ≤ c1) (hle : c1 ≤ c2) (hhi : c2 ≤ 1) :
    (scale (product arith) c1).toNat ≤ (scale (product arith) c2).toNat := by
  rcases le_or_gt c2 0 with hnp2 | hpos2
  · have h1 := scale_of_nonpos hc1 hlo (hle.trans hnp2)
    have h2 := scale_of_nonpos hc2 (hlo.trans hle) hnp2
    have hfloor : ⌊|c2| * 0x80000000 + 1 / 2⌋ ≤ ⌊|c1| * 0x80000000 + 1 / 2⌋ := by
      gcongr ⌊?_ * _ + _⌋
      exact abs_le_abs_of_nonpos hnp2 hle
    omega
  · have h2 := scale_of_pos arith hpos2 hhi
    rcases le_or_gt c1 0 with hnp1 | hpos1
    · have h1 := scale_of_nonpos hc1 hlo hnp1
      have hdown : 0 ≤ ⌊|c1| * 0x80000000 + 1 / 2⌋ := by positivity
      have hup := (floor_product_mem arith hpos2.le hhi).1
      omega
    · have h1 := scale_of_pos arith hpos1 (hle.trans hhi)
      have hfloor : ⌊product arith c1 0x7FFFFFFF + 1 / 2⌋ ≤ ⌊product arith c2 0x7FFFFFFF + 1 / 2⌋ := by
        gcongr ⌊?_ + _⌋
        exact product_mono arith (by norm_num) hle
      omega

/-- Settles O44: each branch of the encoding is monotonic and the midpoint lies between them; likewise for the decoding, strictly. -/
theorem scalerMonotonic : Obligations.ScalerMonotonic := by
  refine ⟨fun s v1 v2 c1 c2 hv1 hv2 hle hops => ?_, fun _ _ => bp32Decode_strictMono⟩
  have hc1 : IsOperand s.params.scalerArith c1 := fun h => (hops h).1
  have hc2 : IsOperand s.params.scalerArith c2 := fun h => (hops h).2
  exact ⟨_, _, exec_bp32Enc_of_operand hv1 hc1, exec_bp32Enc_of_operand hv2 hc2,
    scale_mono hc1 hc2 (clamp_mem hv1).1 hle (clamp_mem hv2).2⟩

/-! ### Round trip (R116) -/

/-- On the upper branch the decoded word is off by the rounding of the product and of the integer, in units of `1 / 0x7FFFFFFF`. -/
theorem abs_decode_scale_sub_of_pos (arith : ScalerArith) {c : Rat} (hpos : 0 < c) (hhi : c ≤ 1) :
    |bp32Decode (scale (product arith) c) - c| ≤
      (1 / 2 + |product arith c 0x7FFFFFFF - c * 0x7FFFFFFF|) / 0x7FFFFFFF := by
  have hword := scale_of_pos arith hpos hhi
  have hnonneg := (floor_product_mem arith hpos.le hhi).1
  have hround := abs_floor_add_half_sub_le (product arith c 0x7FFFFFFF)
  have hcast : ((scale (product arith) c).toNat : Rat) - 0x80000000 = ⌊product arith c 0x7FFFFFFF + 1 / 2⌋ := by
    rw [sub_eq_iff_eq_add']
    exact_mod_cast hword
  rw [bp32Decode_upper (by omega), hcast, abs_div_sub_eq (by norm_num)]
  gcongr
  exact (abs_sub_le _ (product arith c 0x7FFFFFFF) _).trans (by gcongr)

/-- On the lower branch it is off by the rounding of the integer, in units of `1 / 0x80000000`. -/
theorem abs_decode_scale_sub_of_nonpos {arith : ScalerArith} {c : Rat} (hc : IsOperand arith c) (hlo : -1 ≤ c) (hnp : c ≤ 0) :
    |bp32Decode (scale (product arith) c) - c| ≤ (1 / 2) / 0x80000000 := by
  have hword := scale_of_nonpos hc hlo hnp
  have hnonneg : 0 ≤ ⌊|c| * 0x80000000 + 1 / 2⌋ := by positivity
  have hround := abs_floor_add_half_sub_le (|c| * 0x80000000)
  have hcast : 0x80000000 - ((scale (product arith) c).toNat : Rat) = ⌊|c| * 0x80000000 + 1 / 2⌋ := by
    rw [sub_eq_iff_eq_add, ← sub_eq_iff_eq_add']
    exact_mod_cast hword.symm
  rw [bp32Decode_lower (by omega), hcast]
  rw [abs_of_nonpos hnp] at hround ⊢
  rw [abs_le] at hround ⊢
  constructor <;> linarith

/-- A word of the upper half is encoded from whatever lies near its decoding: the product is less than a half away from the integer. -/
theorem scale_of_near_upper (arith : ScalerArith) {raw : U32} (hraw : 0x80000000 < raw.toNat) {c : Rat} (hhi : c ≤ 1)
    (hnear : |c - bp32Decode raw| ≤ 1 / 2 ^ 40) : scale (product arith) c = raw := by
  have hk : (0x80000001 : Rat) ≤ raw.toNat := by exact_mod_cast hraw
  rw [bp32Decode_upper hraw.le, abs_le] at hnear
  obtain ⟨hnlo, hnhi⟩ := hnear
  have hpos : 0 < c := by linarith
  obtain ⟨hplo, hphi⟩ := abs_le.mp (abs_product_sub_le arith hpos.le hhi)
  have hfloor : ⌊product arith c 0x7FFFFFFF + 1 / 2⌋ = (raw.toNat : Int) - 0x80000000 := by
    rw [Int.floor_eq_iff]
    push_cast
    constructor <;> linarith
  refine BitVec.eq_of_toNat_eq ?_
  have hword := scale_of_pos arith hpos hhi
  omega

theorem isBinary64_bp32Decode_lower {raw : U32} (h : raw.toNat ≤ 0x80000000) : IsBinary64 (bp32Decode raw) := by
  have hval : bp32Decode raw = ((raw.toNat - 0x80000000 : Int) : Rat) / 2 ^ 31 := by
    rw [bp32Decode_lower h]
    push_cast
    ring
  rw [hval]
  exact isBinary64_div_two_pow (by rw [abs_lt]; omega) (by norm_num)

theorem scale_bp32Decode_lower (arith : ScalerArith) {raw : U32} (h : raw.toNat ≤ 0x80000000) :
    scale (product arith) (bp32Decode raw) = raw := by
  have hmid : (raw.toNat : Rat) ≤ 0x80000000 := by exact_mod_cast h
  have hnp : bp32Decode raw ≤ 0 := by rw [bp32Decode_lower h]; linarith
  have hword := scale_of_nonpos (isOperand_of_isBinary64 arith (isBinary64_bp32Decode_lower h)) (bp32Decode_mem raw).1 hnp
  have hfloor : ⌊|bp32Decode raw| * 0x80000000 + 1 / 2⌋ = 0x80000000 - (raw.toNat : Int) := by
    rw [abs_of_nonpos hnp, bp32Decode_lower h, Int.floor_eq_iff]
    push_cast
    constructor <;> linarith
  refine BitVec.eq_of_toNat_eq ?_
  omega

theorem rn64_bp32Decode_mem (raw : U32) : -1 ≤ rn64 (bp32Decode raw) ∧ rn64 (bp32Decode raw) ≤ 1 := by
  obtain ⟨hlo, hhi⟩ := bp32Decode_mem raw
  have hone : rn64 1 = 1 := rn64_eq_self_iff.mpr (by simpa using isBinary64_intCast (n := 1) (by norm_num))
  exact ⟨by simpa [hone] using rn64_mono hlo, hone ▸ rn64_mono hhi⟩

theorem scale_bp32Decode (arith : ScalerArith) (raw : U32) : scale (product arith) (bp32Decode raw) = raw := by
  rcases le_or_gt raw.toNat 0x80000000 with h | h
  · exact scale_bp32Decode_lower arith h
  · exact scale_of_near_upper arith h (bp32Decode_mem raw).2 (by simp)

theorem scale_rn64_bp32Decode (arith : ScalerArith) (raw : U32) : scale (product arith) (rn64 (bp32Decode raw)) = raw := by
  rcases le_or_gt raw.toNat 0x80000000 with h | h
  · rw [rn64_eq_self_iff.mpr (isBinary64_bp32Decode_lower h), scale_bp32Decode_lower arith h]
  · have hmid : (0x80000000 : Rat) < raw.toNat := by exact_mod_cast h
    have hnonneg : 0 ≤ bp32Decode raw := by rw [bp32Decode_upper h.le]; linarith
    have hhi := (bp32Decode_mem raw).2
    exact scale_of_near_upper arith h (rn64_bp32Decode_mem raw).2 (abs_rn64_sub_le hnonneg (by norm_num) (by linarith))

theorem exec_bp32Enc_rn64_bp32Decode (s : State) (raw : U32) :
    exec (.bp32Enc (.finite (rn64 (bp32Decode raw)))) s = .next (s.reply (.raw raw)) := by
  obtain ⟨hlo, hhi⟩ := rn64_bp32Decode_mem raw
  have hc := isOperand_of_isBinary64 s.params.scalerArith (isBinary64_rn64 (bp32Decode raw))
  rw [exec_bp32Enc_of_operand (clamp_finite_of_mem hlo hhi) hc, scale_rn64_bp32Decode]

/-- Settles O43: the error of each branch, and the words that near rationals encode to. -/
theorem scalerRoundTrip : Obligations.ScalerRoundTrip := by
  intro s
  refine ⟨fun v c hv hc => ⟨_, exec_bp32Enc_of_operand hv hc, ?_⟩, fun raw => ⟨exec_bp32Enc_rn64_bp32Decode s raw, fun harith => ?_⟩⟩
  · obtain ⟨hlo, hhi⟩ := clamp_mem hv
    rcases le_or_gt c 0 with hnp | hpos
    · have h := abs_decode_scale_sub_of_nonpos hc hlo hnp
      exact ⟨h.trans (by norm_num), fun _ => h.trans (by norm_num)⟩
    · have h := abs_decode_scale_sub_of_pos s.params.scalerArith hpos hhi
      refine ⟨?_, fun harith => ?_⟩
      · have hproduct := abs_product_sub_le s.params.scalerArith hpos.le hhi
        exact h.trans (by linarith)
      · rw [harith, product_exact, sub_self, abs_zero] at h
        rw [harith]
        exact h.trans (by norm_num)
  · obtain ⟨hlo, hhi⟩ := bp32Decode_mem raw
    have hc : IsOperand s.params.scalerArith (bp32Decode raw) := harith ▸ isOperand_exact _
    rw [exec_bp32Enc_of_operand (clamp_finite_of_mem hlo hhi) hc, scale_bp32Decode]

/-! ### The boundary values (R117) -/

/-- A decoded value that is a binary64 value encodes to its word. -/
theorem exec_bp32Enc_of_decode (s : State) {raw : U32} {n : Int} (hn : |n| < 2 ^ 53) (h : bp32Decode raw = n) :
    exec (.bp32Enc (.finite n)) s = .next (s.reply (.raw raw)) := by
  rw [← exec_bp32Enc_rn64_bp32Decode, h, rn64_eq_self_iff.mpr (isBinary64_intCast hn)]

/-- Settles O39: the three words decode to -1, 0 and 1. -/
theorem scalerBoundaryValues : Obligations.ScalerBoundaryValues := by
  intro s
  refine ⟨?_, ?_, ?_, ?_⟩
  · have h : bp32Decode 0x00000000#32 = (-1 : Int) := by rw [bp32Decode_lower (by decide)]; norm_num
    simpa using exec_bp32Enc_of_decode s (by norm_num) h
  · have h : bp32Decode 0x80000000#32 = (0 : Int) := by rw [bp32Decode_midpoint, Int.cast_zero]
    simpa using exec_bp32Enc_of_decode s (by norm_num) h
  · have h : bp32Decode 0xFFFFFFFF#32 = (1 : Int) := by rw [bp32Decode_upper (by decide)]; norm_num
    simpa using exec_bp32Enc_of_decode s (by norm_num) h
  · rw [exec_bp32Dec, bp32Decode_midpoint, port64_zero]

end Sys2Proof.Proofs
end

section
/-! PROOFS. The range checks (R100, R101) and the validity of a manufacturer (R122). -/

namespace Sys2Proof.Proofs

open Sys2Proof.Machine

theorem rangeCheck_of_mem {n : Nat} (type : RangeType) (field : Option Machine.Field) {x : Int} (hlo : 0 ≤ x) (hhi : x ≤ 2 ^ n - 1) :
    ∃ v : BitVec n, (v.toNat : Int) = x ∧ rangeCheck n type field x = .ok v := by
  refine ⟨BitVec.ofInt n x, ?_, if_pos ⟨hlo, hhi⟩⟩
  rw [BitVec.toNat_ofInt, Nat.cast_pow, Nat.cast_ofNat, Int.emod_eq_of_lt hlo (by omega), Int.toNat_of_nonneg hlo]

theorem rangeCheck_of_not_mem {n : Nat} (type : RangeType) (field : Option Machine.Field) {x : Int} (h : x < 0 ∨ 2 ^ n - 1 < x) :
    rangeCheck n type field x = .error (.outOfRangeValue type field (.int x)) := if_neg (by omega)

theorem exec_u4Check (x : Int) (s : State) :
    exec (.u4Check x) s = returnOrRaise s .uint4 (rangeCheck 4 .uint4 none x) := rfl

theorem exec_u7Check (x : Int) (s : State) :
    exec (.u7Check x) s = returnOrRaise s .uint7 (rangeCheck 7 .uint7 none x) := rfl

/-- Settles O32: both operations are the range check of their width. -/
theorem rangeChecks : Obligations.RangeChecks := by
  intro s x
  refine ⟨fun hlo hhi => ?_, fun h => ?_, fun hlo hhi => ?_, fun h => ?_⟩
  · obtain ⟨v, hv, hcheck⟩ := rangeCheck_of_mem (n := 4) .uint4 none hlo hhi
    exact ⟨v, hv, by rw [exec_u4Check, hcheck, returnOrRaise_ok]⟩
  · rw [exec_u4Check, rangeCheck_of_not_mem _ _ h, returnOrRaise_error]
  · obtain ⟨v, hv, hcheck⟩ := rangeCheck_of_mem (n := 7) .uint7 none hlo hhi
    exact ⟨v, hv, by rw [exec_u7Check, hcheck, returnOrRaise_ok]⟩
  · rw [exec_u7Check, rangeCheck_of_not_mem _ _ h, returnOrRaise_error]

theorem exec_mfrValid (m : Mfr) (s : State) : exec (.mfrValid m) s = .next (s.reply (.bit (mfrValid m))) := rfl

theorem mfrValid_oneByte (b : U7) : mfrValid (.oneByte b) = true ↔ 0x01 ≤ b.toNat ∧ b.toNat ≤ 0x7D := by simp [mfrValid]

theorem mfrValid_threeByte (b2 b3 : U7) : mfrValid (.threeByte b2 b3) = true ↔ ¬ (b2 = 0#7 ∧ b3 = 0#7) := by
  simp [mfrValid, imp_iff_not_or]

/-- Settles O35: the two shapes of a manufacturer. -/
theorem manufacturerValidity : Obligations.ManufacturerValidity := fun s =>
  ⟨fun b => ⟨_, exec_mfrValid _ s, mfrValid_oneByte b⟩, fun b2 b3 => ⟨_, exec_mfrValid _ s, mfrValid_threeByte b2 b3⟩⟩

end Sys2Proof.Proofs
end

section
/-! PROOFS. Construction and equality of Events (R145, R146): what `EV.MAKE` answers, from the rule of each check and of a sequence of checks,
and the Event that `EV.MAKE` gives back from its own fields. -/

namespace Sys2Proof.Proofs

open Sys2Proof.Machine

/-! ### Checks in order -/

/-- `m` makes the checks `cs` in order: when all are in range it answers a value of which `Q` holds, else it raises the error of the first one
out of range. -/
def ChecksInOrder {α : Type} (cs : List (RangeType × Machine.Field × Int)) (m : Except CodecError α) (Q : α → Prop) : Prop :=
  (∀ c ∈ cs, inRange c = true) ∧ (∃ a, Q a ∧ m = .ok a) ∨
  ∃ pre ty f x post, cs = pre ++ (ty, f, x) :: post ∧ (∀ c ∈ pre, inRange c = true) ∧
    inRange (ty, f, x) = false ∧ m = .error (.outOfRangeValue ty (some f) (.int x))

section
variable {α β : Type} {cs cs' : List (RangeType × Machine.Field × Int)} {m : Except CodecError α} {Q : α → Prop}

theorem checksInOrder_pure {a : α} (h : Q a) : ChecksInOrder [] (pure a) Q := .inl ⟨by simp, a, h, rfl⟩

/-- One computation after another makes the checks of both, those of the first before those of the second. -/
theorem ChecksInOrder.bind {k : α → Except CodecError β} {R : β → Prop} (hm : ChecksInOrder cs m Q)
    (hk : ∀ a, Q a → ChecksInOrder cs' (k a) R) : ChecksInOrder (cs ++ cs') (m >>= k) R := by
  rcases hm with ⟨hin, a, ha, rfl⟩ | ⟨pre, ty, f, x, post, rfl, hpre, hx, rfl⟩
  · rcases hk a ha with ⟨hin', b, hb, he⟩ | ⟨pre, ty, f, x, post, rfl, hpre, hx, he⟩
    · exact .inl ⟨List.forall_mem_append.mpr ⟨hin, hin'⟩, b, hb, he⟩
    · exact .inr ⟨cs ++ pre, ty, f, x, post, by simp, List.forall_mem_append.mpr ⟨hin, hpre⟩, hx, he⟩
  · exact .inr ⟨pre, ty, f, x, post ++ cs', by simp, hpre, hx, rfl⟩

/-- A computation that only returns adds no check. -/
theorem ChecksInOrder.map {g : α → β} {R : β → Prop} (hm : ChecksInOrder cs m Q) (hg : ∀ a, Q a → R (g a)) :
    ChecksInOrder cs (m >>= fun a => pure (g a)) R := by
  simpa only [List.append_nil] using hm.bind fun a ha => checksInOrder_pure (hg a ha)

end

/-! ### The single checks -/

theorem inRange_eq_true_iff {ty : RangeType} {f : Machine.Field} {x : Int} : inRange (ty, f, x) = true ↔ 0 ≤ x ∧ x ≤ ty.top := by
  simp [inRange]

theorem rangeCheck_checksInOrder {n : Nat} {ty : RangeType} (htop : ty.top = 2 ^ n - 1) (f : Machine.Field) (x : Int) :
    ChecksInOrder [(ty, f, x)] (rangeCheck n ty (some f) x) (fun v => (v.toNat : Int) = x) := by
  by_cases hx : 0 ≤ x ∧ x ≤ 2 ^ n - 1
  · have hin : inRange (ty, f, x) = true := inRange_eq_true_iff.mpr (by rwa [htop])
    obtain ⟨v, hv, hcheck⟩ := rangeCheck_of_mem ty (some f) hx.1 hx.2
    exact .inl ⟨by simpa using hin, v, hv, hcheck⟩
  · have hout : inRange (ty, f, x) = false := by rwa [← Bool.not_eq_true, inRange_eq_true_iff, htop]
    exact .inr ⟨[], ty, f, x, [], rfl, by simp, hout, rangeCheck_of_not_mem ty (some f) (by omega)⟩

/-- A field and what is computed after it. -/
theorem checksInOrder_field {n : Nat} {ty : RangeType} (htop : ty.top = 2 ^ n - 1) {f : Machine.Field} {x : Int} {β : Type}
    {cs : List (RangeType × Machine.Field × Int)} {k : BitVec n → Except CodecError β} {R : β → Prop}
    (hk : ∀ v : BitVec n, (v.toNat : Int) = x → ChecksInOrder cs (k v) R) :
    ChecksInOrder ((ty, f, x) :: cs) (rangeCheck n ty (some f) x >>= k) R :=
  (rangeCheck_checksInOrder htop f x).bind hk

theorem checkGroup_checksInOrder (group : Option Int) :
    ChecksInOrder (groupField group) (checkGroup group) (fun g => (g.toNat : Int) = group.getD 0) := by
  cases group with
  | none => exact checksInOrder_pure rfl
  | some x => exact rangeCheck_checksInOrder rfl .group x

theorem checkMfr_checksInOrder (m : RawMfr) : ChecksInOrder (mfrFields m) (checkMfr m) (fun v => rawMfr v = m) := by
  cases m with
  | oneByte b => exact (rangeCheck_checksInOrder rfl .manufacturer b).map fun _ h => by rw [rawMfr, h]
  | threeByte b2 b3 =>
    exact checksInOrder_field rfl fun _ h2 => (rangeCheck_checksInOrder rfl .manufacturer b3).map fun _ h3 => by rw [rawMfr, h2, h3]

theorem checkData_checksInOrder (data : List Int) :
    ChecksInOrder (data.map fun x => (.uint7, .data, x)) (checkData data) (fun vs => vs.map (fun d => (d.toNat : Int)) = data) := by
  induction data with
  | nil => exact checksInOrder_pure rfl
  | cons x xs ih => exact checksInOrder_field rfl fun _ h => ih.map fun _ hs => by rw [List.map_cons, h, hs]

theorem checkBank_checksInOrder (bank : Option (Int × Int)) :
    ChecksInOrder (bankFields bank) (checkBank bank) (fun v => v.map (fun b => ((b.1.toNat : Int), (b.2.toNat : Int))) = bank) := by
  rcases bank with _ | ⟨msb, lsb⟩
  · exact checksInOrder_pure rfl
  · exact checksInOrder_field rfl fun _ hm => (rangeCheck_checksInOrder rfl .bank lsb).map fun _ hl => by rw [Option.map_some, hm, hl]

/-- The end of the construction of a channel variant: "then `channel`, then `group`" (R145). -/
theorem checksInOrder_channel_group {channel : Int} {group : Option Int} {mk : U4 → U4 → Event} {R : Event → Prop}
    (h : ∀ c g : U4, (c.toNat : Int) = channel → (g.toNat : Int) = group.getD 0 → R (mk c g)) :
    ChecksInOrder ((.uint4, .channel, channel) :: groupField group)
      (do let c ← u4Check (some .channel) channel; let g ← checkGroup group; return mk c g) R :=
  checksInOrder_field rfl fun c hc => (checkGroup_checksInOrder group).map fun g hg => h c g hc hg

/-! ### `EV.MAKE` -/

/-- The variants by the number of fields they check one by one before `channel` and `group`. -/
theorem evMake_checksInOrder (r : RawEvent) : ChecksInOrder (checkedFields r) (evMake r) (fun e => rawOf e = fillGroup r) := by
  cases r
  case tuneRequest group | timingClock group | start group | continue_ group | stop group | activeSensing group | systemReset group =>
    exact (checkGroup_checksInOrder group).map fun _ hg => by simp [rawOf, fillGroup, hg]
  case timecodeQuarterFrame group | songPositionPointer group | songSelect group =>
    exact checksInOrder_field rfl fun _ h1 => (checkGroup_checksInOrder group).map fun _ hg => by simp [rawOf, fillGroup, h1, hg]
  case programChange | pressure | pitchBend | m2Pressure | m2PitchBend | m2PerNoteManagement =>
    exact checksInOrder_field rfl fun _ h1 =>
      checksInOrder_channel_group fun _ _ hc hg => by simp [rawOf, fillGroup, h1, hc, hg]
  case noteOff | noteOn | notePressure | cc | m2PerNotePitchBend | m2NotePressure | m2CC =>
    exact checksInOrder_field rfl fun _ h1 => checksInOrder_field rfl fun _ h2 =>
      checksInOrder_channel_group fun _ _ hc hg => by simp [rawOf, fillGroup, h1, h2, hc, hg]
  case m2RegisteredPerNoteController | m2AssignablePerNoteController | m2RegisteredController | m2AssignableController |
      m2RelativeRegisteredController | m2RelativeAssignableController =>
    exact checksInOrder_field rfl fun _ h1 => checksInOrder_field rfl fun _ h2 => checksInOrder_field rfl fun _ h3 =>
      checksInOrder_channel_group fun _ _ hc hg => by simp [rawOf, fillGroup, h1, h2, h3, hc, hg]
  case m2NoteOff | m2NoteOn =>
    exact checksInOrder_field rfl fun _ h1 => checksInOrder_field rfl fun _ h2 => checksInOrder_field rfl fun _ h3 =>
      checksInOrder_field rfl fun _ h4 =>
        checksInOrder_channel_group fun _ _ hc hg => by simp [rawOf, fillGroup, h1, h2, h3, h4, hc, hg]
  case m2ProgramChange bank channel group =>
    rw [checkedFields, List.append_assoc, List.append_assoc]
    exact checksInOrder_field rfl fun _ h1 => (checkBank_checksInOrder bank).bind fun _ hb =>
      checksInOrder_channel_group fun _ _ hc hg => by simp only [rawOf, fillGroup, h1, hb, hc, hg]
  case sysEx7 manufacturer data group =>
    rw [checkedFields, List.append_assoc]
    exact (checkMfr_checksInOrder manufacturer).bind fun _ hm => (checkData_checksInOrder data).bind fun _ hd =>
      (checkGroup_checksInOrder group).map fun _ hg => by simp only [rawOf, fillGroup, hm, hd, hg]

theorem exec_evMake (r : RawEvent) (s : State) : exec (.evMake r) s = returnOrRaise s .event (evMake r) := rfl

/-- Settles O33: `EV.MAKE` makes its checks in order, and returns or raises accordingly. -/
theorem evMakeChecksInOrder : Obligations.EvMakeChecksInOrder := by
  intro s r
  rw [exec_evMake]
  rcases evMake_checksInOrder r with ⟨hin, e, he, hmake⟩ | ⟨pre, ty, f, x, post, hcs, hpre, hx, hmake⟩
  · exact .inl ⟨hin, e, he, by rw [hmake, returnOrRaise_ok]⟩
  · exact .inr ⟨pre, ty, f, x, post, hcs, hpre, hx, by rw [hmake, returnOrRaise_error]⟩

/-! ### `EV.EQ` -/

/-- The check of a width gives back a value of that width. -/
theorem rangeCheck_toNat {n : Nat} (ty : RangeType) (f : Option Machine.Field) (v : BitVec n) : rangeCheck n ty f v.toNat = pure v := by
  have hlt : (v.toNat : Int) < 2 ^ n := by exact_mod_cast v.isLt
  obtain ⟨w, hw, hcheck⟩ := rangeCheck_of_mem ty f (Int.natCast_nonneg v.toNat) (Int.le_sub_one_of_lt hlt)
  rw [hcheck, BitVec.eq_of_toNat_eq (Int.ofNat_inj.mp hw)]
  rfl

@[simp] theorem u4Check_toNat (f : Option Machine.Field) (v : U4) : u4Check f v.toNat = pure v := rangeCheck_toNat .uint4 f v
@[simp] theorem u7Check_toNat (f : Option Machine.Field) (v : U7) : u7Check f v.toNat = pure v := rangeCheck_toNat .uint7 f v
@[simp] theorem unCheck8_toNat (f : Option Machine.Field) (v : U8) : unCheck8 f v.toNat = pure v := rangeCheck_toNat .uint8 f v
@[simp] theorem unCheck14_toNat (f : Option Machine.Field) (v : U14) : unCheck14 f v.toNat = pure v := rangeCheck_toNat .uint14 f v
@[simp] theorem unCheck16_toNat (f : Option Machine.Field) (v : U16) : unCheck16 f v.toNat = pure v := rangeCheck_toNat .uint16 f v
@[simp] theorem unCheck32_toNat (f : Option Machine.Field) (v : U32) : unCheck32 f v.toNat = pure v := rangeCheck_toNat .uint32 f v

@[simp] theorem checkGroup_toNat (g : U4) : checkGroup (some (g.toNat : Int)) = pure g := u4Check_toNat (some .group) g

@[simp] theorem checkMfr_rawMfr (m : Mfr) : checkMfr (rawMfr m) = pure m := by
  cases m <;> simp [rawMfr, checkMfr]

@[simp] theorem checkData_map_toNat (data : List U7) : checkData (data.map fun d => (d.toNat : Int)) = pure data := by
  induction data with
  | nil => rfl
  | cons v vs ih => simp [checkData, ih]

@[simp] theorem checkBank_map_toNat (bank : Option (U7 × U7)) :
    checkBank (bank.map fun b => ((b.1.toNat : Int), (b.2.toNat : Int))) = pure bank := by
  cases bank with
  | none => rfl
  | some b => simp [checkBank]

/-- `EV.MAKE` of an Event's own fields gives the Event back: every check of its variant does so for its field. -/
theorem evMake_rawOf (e : Event) : evMake (rawOf e) = pure e := by
  cases e <;> simp [rawOf, evMake]

theorem rawOf_injective : Function.Injective rawOf := fun a b h => by
  have hmake : (pure a : Except CodecError Event) = pure b := by rw [← evMake_rawOf a, h, evMake_rawOf b]
  exact Except.ok.inj hmake

theorem exec_evEq (a b : Event) (s : State) : exec (.evEq a b) s = .next (s.reply (.bit (decide (a = b)))) := rfl

/-- Settles O34: the bit decides equality of the Events, whose fields determine them. -/
theorem evEqIsStructural : Obligations.EvEqIsStructural := fun s a b =>
  ⟨decide (a = b), exec_evEq a b s, decide_eq_true_iff, decide_eq_true_iff.trans rawOf_injective.eq_iff.symm⟩

end Sys2Proof.Proofs
end

section
/-! PROOFS. The byte rows of the MIDI 1.0 parser in an open packet (R167 to R199): the effect of a row by the parser's mode, the completion of a
message, and the end of a SysEx. -/

namespace Sys2Proof.Proofs

open Sys2Proof.Machine

/-! ### Status bytes by the mode (R189) -/

section
variable {p : Parser} (idleEffect : Parser → Parser)

theorem statusByte_idle (hm : p.mode = .idle) : statusByte idleEffect p = idleEffect p := by simp [statusByte, hm]

theorem statusByte_collecting (hm : p.mode = .collectingSysEx) : statusByte idleEffect p = idleEffect (sxFinish p) := by
  simp [statusByte, hm]

end

theorem sxFinish_mode (p : Parser) : (sxFinish p).mode = .idle := by rw [sxFinish_eq]

/-- A status byte acts on the parser that ending the SysEx leaves as it does on the collecting one. -/
theorem statusByte_sxFinish (idleEffect : Parser → Parser) {p : Parser} (hm : p.mode = .collectingSysEx) :
    statusByte idleEffect (sxFinish p) = statusByte idleEffect p := by
  rw [statusByte_idle _ (sxFinish_mode p), statusByte_collecting _ hm]

/-! ### `EOX` by the mode (R186, R187) -/

theorem eoxEffect_idle {p : Parser} (hm : p.mode = .idle) : eoxEffect p = cancelMessage p := by simp [eoxEffect, hm, skip]

theorem eoxEffect_collecting {p : Parser} (hm : p.mode = .collectingSysEx) : eoxEffect p = sxFinish p := by
  simp [eoxEffect, hm]

/-! ### Data bytes by the mode (R167, R188) -/

theorem dataEffect_idle {p : Parser} (hm : p.mode = .idle) (v : U7) : dataEffect v p = idleData v p := by
  simp [dataEffect, hm]

theorem dataEffect_collecting {p : Parser} (hm : p.mode = .collectingSysEx) (v : U7) : dataEffect v p = collect v p := by
  simp [dataEffect, hm]

theorem idleData_orphan {p : Parser} (hpend : p.pend = none) (hrs : p.rs = none) (v : U7) : idleData v p = p := by
  simp [idleData, hpend, hrs, skip]

/-- `st` and `d` are the message that a data byte in `Idle` joins: the pending one, or an empty one by running status (R167, R170). -/
def Joins (p : Parser) (st : Byte) (d : List U7) : Prop :=
  p.pend = some ⟨st, d⟩ ∨ p.pend = none ∧ p.rs = some st ∧ d = []

theorem idleData_joins {p : Parser} {st : Byte} {d : List U7} (h : Joins p st d) (v : U7) :
    idleData v p = addData ⟨st, d⟩ v p := by
  rcases h with hpend | ⟨hpend, hrs, rfl⟩
  · simp [idleData, hpend]
  · simp [idleData, hpend, hrs]

theorem complete_eq (m : Pending) (p : Parser) :
    complete m p = { p with pend := none, out := p.out ++ (messageEvent p.noz m.st m.data).toList } := by
  cases h : messageEvent p.noz m.st m.data <;> simp [complete, h, emit]

theorem addData_short {st : Byte} {d : List U7} {n : Nat} (hneed : need st = some n) (hn : d.length + 1 ≠ n) (v : U7)
    (p : Parser) : addData ⟨st, d⟩ v p = { p with pend := some ⟨st, d ++ [v]⟩ } := by
  simp [addData, hneed, hn.symm]

theorem addData_last {st : Byte} {d : List U7} (hneed : need st = some (d.length + 1)) (v : U7) (p : Parser) :
    addData ⟨st, d⟩ v p = { p with pend := none, out := p.out ++ (messageEvent p.noz st (d ++ [v])).toList } := by
  simp [addData, hneed, complete_eq]

/-! ### The Events of complete messages (R171 to R177, R180 to R182) -/

theorem need_channel : ∀ n : U4,
    need (pkNib 0x8#4 n) = some 2 ∧ need (pkNib 0x9#4 n) = some 2 ∧ need (pkNib 0xA#4 n) = some 2 ∧
    need (pkNib 0xB#4 n) = some 2 ∧ need (pkNib 0xC#4 n) = some 1 ∧ need (pkNib 0xD#4 n) = some 1 ∧
    need (pkNib 0xE#4 n) = some 2 := by decide

section
variable (noz : Bool) (n : U4) (a b : U7)

theorem messageEvent_noteOff : messageEvent noz (pkNib 0x8#4 n) [a, b] = some (.noteOff a b n 0#4) := by
  simp [messageEvent, twoData, Config.m1Group]

theorem messageEvent_noteOn : messageEvent noz (pkNib 0x9#4 n) [a, b] = some (noteOnEvent noz n a b) := by
  simp [messageEvent, twoData]

theorem messageEvent_polyPressure : messageEvent noz (pkNib 0xA#4 n) [a, b] = some (.notePressure a b n 0#4) := by
  simp [messageEvent, twoData, Config.m1Group]

theorem messageEvent_controlChange : messageEvent noz (pkNib 0xB#4 n) [a, b] = some (.cc a b n 0#4) := by
  simp [messageEvent, twoData, Config.m1Group]

theorem messageEvent_programChange : messageEvent noz (pkNib 0xC#4 n) [b] = some (.programChange b n 0#4) := by
  simp [messageEvent, oneData, Config.m1Group]

theorem messageEvent_channelPressure : messageEvent noz (pkNib 0xD#4 n) [b] = some (.pressure b n 0#4) := by
  simp [messageEvent, oneData, Config.m1Group]

theorem messageEvent_pitchBend : messageEvent noz (pkNib 0xE#4 n) [a, b] = some (.pitchBend (pkU14 b a) n 0#4) := by
  simp [messageEvent, twoData, Config.m1Group]

end

/-! ### The end of a SysEx (R190) -/

/-- The bytes that the statements write out are those that carry 7-bit fields (R66). -/
theorem map_zero_append (l : List U7) : (l.map fun v => 0#1 ++ v : List Byte) = l.map byteOf7 := rfl

/-- The Event of a SysEx buffer: none where the manufacturer ID is missing or incomplete. -/
def bufferEvents (buffer : List U7) : List Event := ((mfrParse buffer).map fun x => .sysEx7 x.1 x.2 0#4).toList

theorem bufferEvents_of_mfrParse {buffer d : List U7} {m : Mfr} (h : mfrParse buffer = some (m, d)) :
    bufferEvents buffer = [.sysEx7 m d 0#4] := by simp [bufferEvents, h]

theorem bufferEvents_nil : bufferEvents [] = [] := rfl

theorem mfrParse_oneByte {b : U7} (hb : b ≠ 0#7) (d : List U7) : mfrParse (b :: d) = some (.oneByte b, d) := by
  simp [mfrParse, hb]

theorem mfrParse_threeByte (b2 b3 : U7) (d : List U7) : mfrParse (0#7 :: b2 :: b3 :: d) = some (.threeByte b2 b3, d) := rfl

theorem mfrParse_incomplete {d : List U7} (hd : d.length < 2) : mfrParse (0#7 :: d) = none := by
  match d, hd with
  | [], _ => rfl
  | [_], _ => rfl

theorem bufferEvents_incomplete {d : List U7} (hd : d.length < 2) : bufferEvents (0#7 :: d) = [] := by
  simp [bufferEvents, mfrParse_incomplete hd]

theorem sxFinish_eq_bufferEvents (p : Parser) :
    sxFinish p = { p with mode := .idle, sxbuf := [], out := p.out ++ bufferEvents p.sxbuf } := by
  rw [sxFinish_eq, bufferEvents]
  cases mfrParse p.sxbuf <;> rfl

/-! ### The rows in an open packet -/

section
variable {s : State} {h : Nat} {pkt : List Byte} {p : Parser} (hs : s.phase = .packet h pkt) (hp : s.parser? h = some p)
include hs hp

theorem exec_data (v : U7) : exec (.data v) s = .next (s.setParser h (some (advance (dataEffect v p)))) :=
  byteRow_packet hs hp fun _ => dataEffect v

theorem exec_eox : exec .eox s = .next (s.setParser h (some (advance (eoxEffect p)))) :=
  byteRow_packet hs hp fun _ => eoxEffect

theorem byteRow_statusByte_idle (hm : p.mode = .idle) (idleEffect : Params → Parser → Parser) :
    byteRow s (fun params => statusByte (idleEffect params)) =
      .next (s.setParser h (some (advance (idleEffect s.params p)))) := by
  rw [byteRow_packet hs hp, statusByte_idle _ hm]

/-- A status byte row writes the same parser into the packet whether the SysEx is ended before it or by it. -/
theorem byteRow_statusByte_sxFinish (hm : p.mode = .collectingSysEx) (idleEffect : Params → Parser → Parser) :
    ∃ q, byteRow (s.setParser h (some (sxFinish p))) (fun params => statusByte (idleEffect params)) =
        .next (s.setParser h (some q)) ∧
      byteRow s (fun params => statusByte (idleEffect params)) = .next (s.setParser h (some q)) := by
  refine ⟨_, ?_, byteRow_packet hs hp _⟩
  rw [byteRow_packet (s := s.setParser h _) hs (parser?_setParser_self _ hp), setParser_setParser, setParser_params,
    statusByte_sxFinish _ hm]

/-- The last data byte of a message emits the message's Event. -/
theorem exec_data_last (hm : p.mode = .idle) {st : Byte} {d : List U7} (hpend : p.pend = some ⟨st, d⟩)
    (hneed : need st = some (d.length + 1)) {v : U7} {e : Event} (he : messageEvent p.noz st (d ++ [v]) = some e) :
    exec (.data v) s = .next (s.setParser h (some { p with pend := none, out := p.out ++ [e], cur := p.cur + 1 })) := by
  rw [exec_data hs hp, dataEffect_idle hm, idleData_joins (.inl hpend), addData_last hneed, he]
  rfl

end

/-- Settles O8: each row opens its message in the parser itself. -/
theorem channelStatusOpensMessage : Obligations.ChannelStatusOpensMessage := by
  intro s h pkt p n hs hp hm opened
  have hrow (kind : U4) : byteRow s (channelEffect kind n) = opened (kind ++ n) :=
    byteRow_statusByte_idle hs hp hm fun params => openChannelMessage params.rsScope (pkNib kind n)
  exact ⟨hrow 0x8#4, hrow 0x9#4, hrow 0xA#4, hrow 0xB#4, hrow 0xC#4, hrow 0xD#4, hrow 0xE#4⟩

/-- Settles O9: no message to join, one that stays short, and one that completes. -/
theorem dataByteInIdle : Obligations.DataByteInIdle := by
  intro s h pkt p v hs hp hm goes
  have hrow : exec (.data v) s = .next (s.setParser h (some (advance (idleData v p)))) := by
    rw [exec_data hs hp, dataEffect_idle hm]
  refine ⟨fun hpend hrs => ?_, fun st d n hjoins hneed => ⟨fun hshort => ?_, fun hlast => ?_⟩⟩
  · rw [hrow, idleData_orphan hpend hrs]
    rfl
  · rw [hrow, idleData_joins hjoins, addData_short hneed hshort]
    rfl
  · rw [hrow, idleData_joins hjoins, addData_last (hlast ▸ hneed)]
    rfl

/-- Settles O10: each status with its number of data bytes and its Event. -/
theorem channelMessagesComplete : Obligations.ChannelMessagesComplete := by
  intro s h pkt p n a b hs hp hm emits
  obtain ⟨hOff, hOn, hPoly, hControl, hProgram, hPressure, hBend⟩ := need_channel n
  exact ⟨fun hpend => exec_data_last hs hp hm hpend hOff (messageEvent_noteOff ..),
    fun hpend => exec_data_last hs hp hm hpend hOn (messageEvent_noteOn ..),
    fun hpend => exec_data_last hs hp hm hpend hPoly (messageEvent_polyPressure ..),
    fun hpend => exec_data_last hs hp hm hpend hControl (messageEvent_controlChange ..),
    fun hpend => exec_data_last hs hp hm hpend hProgram (messageEvent_programChange ..),
    fun hpend => exec_data_last hs hp hm hpend hPressure (messageEvent_channelPressure ..),
    fun hpend => exec_data_last hs hp hm hpend hBend (messageEvent_pitchBend ..)⟩

/-- Settles O12: the three status rows, and the last data byte of each message. -/
theorem systemMessagesInIdle : Obligations.SystemMessagesInIdle := by
  intro s h pkt p a b hs hp hm opened emits
  have hrow (st : Byte) : byteRow s (fun _ => statusByte (openSystemMessage st)) = opened st :=
    byteRow_statusByte_idle hs hp hm fun _ => openSystemMessage st
  exact ⟨hrow 0xF1#8, hrow 0xF2#8, hrow 0xF3#8, fun hpend => exec_data_last hs hp hm hpend rfl rfl,
    fun hpend => exec_data_last hs hp hm hpend rfl rfl, fun hpend => exec_data_last hs hp hm hpend rfl rfl⟩

/-- Settles O13: the idle effect of each of the five rows. -/
theorem systemBytesInIdle : Obligations.SystemBytesInIdle := by
  intro s h pkt p hs hp hm cancelled goes
  have hrow (idleEffect : Parser → Parser) : byteRow s (fun _ => statusByte idleEffect) = goes (advance (idleEffect p)) :=
    byteRow_statusByte_idle hs hp hm fun _ => idleEffect
  have heox : exec .eox s = goes (advance (cancelMessage p)) := by rw [exec_eox hs hp, eoxEffect_idle hm]
  exact ⟨hrow openSysEx, hrow cancelMessage, hrow cancelMessage, hrow _, heox⟩

/-- Settles O14: a data byte is collected; `0xF7` emits the Events of the buffer, and the cases are those of its manufacturer ID. -/
theorem sysExCollection : Obligations.SysExCollection := by
  intro s h pkt p hs hp hm closed
  have hclosed : exec .eox s = closed (bufferEvents p.sxbuf) := by
    rw [exec_eox hs hp, eoxEffect_collecting hm, sxFinish_eq_bufferEvents]
    rfl
  refine ⟨fun v => ?_, ?_, fun hbuf => ?_, fun b d hbuf hb => ?_, fun b2 b3 d hbuf => ?_, fun d hbuf hd => ?_⟩
  · rw [exec_data hs hp, dataEffect_collecting hm]
    rfl
  · rw [hclosed, bufferEvents, map_zero_append, sx7FromBytes_frame]
    cases mfrParse p.sxbuf <;> rfl
  · rw [hclosed, hbuf, bufferEvents_nil]
  · rw [hclosed, hbuf, bufferEvents_of_mfrParse (mfrParse_oneByte hb d)]
  · rw [hclosed, hbuf, bufferEvents_of_mfrParse (mfrParse_threeByte b2 b3 d)]
  · rw [hclosed, hbuf, bufferEvents_incomplete hd]

/-- Settles O15: ending the SysEx emits the Events of the buffer, and each row acts on the parser it leaves. -/
theorem statusByteEndsSysEx : Obligations.StatusByteEndsSysEx := by
  intro s h pkt p n hs hp hm
  refine ⟨bufferEvents p.sxbuf, fun hbuf => by rw [hbuf, bufferEvents_nil],
    fun b d hbuf hb => by rw [hbuf, bufferEvents_of_mfrParse (mfrParse_oneByte hb d)],
    fun b2 b3 d hbuf => by rw [hbuf, bufferEvents_of_mfrParse (mfrParse_threeByte b2 b3 d)],
    fun d hbuf hd => by rw [hbuf, bufferEvents_incomplete hd], ?_⟩
  rw [← sxFinish_eq_bufferEvents]
  intro ended finished acts
  have hrow := byteRow_statusByte_sxFinish hs hp hm
  have hchannel (kind : U4) := hrow fun params => openChannelMessage params.rsScope (pkNib kind n)
  have hsystem (idleEffect : Parser → Parser) := hrow fun _ => idleEffect
  exact ⟨rfl, hchannel 0x8#4, hchannel 0x9#4, hchannel 0xA#4, hchannel 0xB#4, hchannel 0xC#4, hchannel 0xD#4,
    hchannel 0xE#4, hsystem openSysEx, hsystem (openSystemMessage 0xF1#8), hsystem (openSystemMessage 0xF2#8),
    hsystem (openSystemMessage 0xF3#8), hsystem cancelMessage, hsystem cancelMessage, hsystem _⟩

/-- Settles O16: the effect of each row is to emit its Event or to skip, whatever the mode. -/
theorem realTimeBytesTransparent : Obligations.RealTimeBytesTransparent := by
  intro s h pkt p hs hp emits
  have hrow (effect : Parser → Parser) : byteRow s (fun _ => effect) = .next (s.setParser h (some (advance (effect p)))) :=
    byteRow_packet hs hp _
  have hemit (e : Event) : byteRow s (fun _ => emit e) = emits [e] := hrow _
  have hskip (reason : SkipReason) : byteRow s (fun _ => skip reason) = emits [] := by
    simp [emits, hrow, skip, advance]
  exact ⟨hemit _, hskip _, hemit _, hemit _, hemit _, hskip _, hemit _, hemit _⟩

end Sys2Proof.Proofs
end

section
/-! PROOFS. `M1.BYTE` and `M1.PACKET` (R161 to R164): the byte step by the range of the byte, the row of each byte, the run of a packet, and a SysEx cut
into packets (R204). -/

namespace Sys2Proof.Proofs

open Sys2Proof.Machine

/-! ### `M1.BYTE` by the range of the byte (R162) -/

section
variable (params : Params) {b : Byte} (p : Parser)

theorem m1Byte_data (hb : b.toNat < 0x80) : m1Byte params b p = advance (dataEffect (low7 b) p) := by
  have hreal : ¬ 0xF8 ≤ b.toNat := by omega
  cases hm : p.mode <;> simp [m1Byte, dataEffect, idleByte, hm, hb, hreal]

theorem m1Byte_status (hlo : 0x80 ≤ b.toNat) (hhi : b.toNat ≤ 0xF6) :
    m1Byte params b p = advance (statusByte (idleByte params b) p) := by
  have hreal : ¬ 0xF8 ≤ b.toNat := by omega
  have hdata : ¬ b.toNat < 0x80 := by omega
  have heox : b ≠ 0xF7#8 := by rintro rfl; exact absurd hhi (by decide)
  cases hm : p.mode <;> simp [m1Byte, statusByte, hm, hreal, hdata, heox]

theorem m1Byte_eox : m1Byte params 0xF7#8 p = advance (eoxEffect p) := by
  cases hm : p.mode <;> simp [m1Byte, eoxEffect, idleByte, systemCommonByte, hm]

theorem m1Byte_realTime (hb : 0xF8 ≤ b.toNat) : m1Byte params b p = advance (realTimeByte b p) := by
  rw [m1Byte, if_pos hb]

theorem idleByte_channel (hlo : 0x80 ≤ b.toNat) (hhi : b.toNat < 0xF0) :
    idleByte params b p = openChannelMessage params.rsScope b p := by
  rw [idleByte, if_neg (by omega), if_pos hhi]

end

/-! ### The row of each byte -/

/-- `b` decodes to a byte row whose effect is that of `M1.BYTE`. -/
def RowIsM1Byte (b : Byte) : Prop :=
  ∃ effect : Params → Parser → Parser, (∀ s, exec (decode (.byte b)) s = byteRow s effect) ∧
    ∀ params p, m1Byte params b p = advance (effect params p)

theorem rowIsM1Byte_data {b : Byte} (hb : b.toNat < 0x80) : RowIsM1Byte b :=
  ⟨fun _ => dataEffect (low7 b), fun s => by rw [decode, decodeByte_data b hb]; rfl, fun params p => m1Byte_data params p hb⟩

theorem rowIsM1Byte_channel {kind n : U4} (hkind : 0x8 ≤ kind.toNat ∧ kind.toNat ≤ 0xE) {i : Instr}
    (hdecode : decodeByte (pkNib kind n) = i) (hrow : ∀ s, exec i s = byteRow s (channelEffect kind n)) :
    RowIsM1Byte (pkNib kind n) := by
  refine ⟨channelEffect kind n, fun s => by rw [decode, hdecode, hrow], fun params p => ?_⟩
  have hn := n.isLt
  have hb := pkNib_toNat kind n
  rw [m1Byte_status params p (by omega) (by omega), channelEffect,
    funext fun q => idleByte_channel params q (b := pkNib kind n) (by omega) (by omega)]

theorem rowIsM1Byte_systemCommon {b : Byte} (hb : 0xF0 ≤ b.toNat ∧ b.toNat ≤ 0xF6)
    (hrow : ∀ s, exec (decode (.byte b)) s = byteRow s fun params => statusByte (idleByte params b)) : RowIsM1Byte b :=
  ⟨_, hrow, fun params p => m1Byte_status params p (by omega) hb.2⟩

theorem rowIsM1Byte_realTime {b : Byte} (hb : 0xF8 ≤ b.toNat)
    (hrow : ∀ s, exec (decode (.byte b)) s = byteRow s fun _ => realTimeByte b) : RowIsM1Byte b :=
  ⟨_, hrow, fun params p => m1Byte_realTime params p hb⟩

theorem rowIsM1Byte (b : Byte) : RowIsM1Byte b := by
  have hchannel := decodeByte_channel
  simp only [forall_and] at hchannel
  obtain ⟨hOff, hOn, hPoly, hControl, hProgram, hPressure, hBend⟩ := hchannel
  rcases byte_cases b with hb | ⟨n, rfl⟩ | ⟨n, rfl⟩ | ⟨n, rfl⟩ | ⟨n, rfl⟩ | ⟨n, rfl⟩ | ⟨n, rfl⟩ | ⟨n, rfl⟩ |
    rfl | rfl | rfl | rfl | rfl | rfl | rfl | rfl | rfl | rfl | rfl | rfl | rfl | rfl | rfl | rfl
  · exact rowIsM1Byte_data hb
  · exact rowIsM1Byte_channel (by decide) (hOff n) fun _ => rfl
  · exact rowIsM1Byte_channel (by decide) (hOn n) fun _ => rfl
  · exact rowIsM1Byte_channel (by decide) (hPoly n) fun _ => rfl
  · exact rowIsM1Byte_channel (by decide) (hControl n) fun _ => rfl
  · exact rowIsM1Byte_channel (by decide) (hProgram n) fun _ => rfl
  · exact rowIsM1Byte_channel (by decide) (hPressure n) fun _ => rfl
  · exact rowIsM1Byte_channel (by decide) (hBend n) fun _ => rfl
  iterate 7 exact rowIsM1Byte_systemCommon (by decide) fun _ => rfl
  · exact ⟨fun _ => eoxEffect, fun _ => rfl, fun params p => m1Byte_eox params p⟩
  all_goals exact rowIsM1Byte_realTime (by decide) fun _ => rfl

/-- Settles O17: the row of the byte writes the parser of the packet, and its effect is that of `M1.BYTE`. -/
theorem byteStepIsM1Byte : Obligations.ByteStepIsM1Byte := by
  intro s h pkt p b hs hp
  obtain ⟨effect, hrow, hbyte⟩ := rowIsM1Byte b
  rw [hrow, byteRow_packet hs hp, hbyte]

/-! ### `CUR` (R27) -/

theorem addData_cur (m : Pending) (v : U7) (p : Parser) : (addData m v p).cur = p.cur := by
  unfold addData
  dsimp only
  split
  · rw [complete_eq]
  · rfl

theorem idleData_cur (v : U7) (p : Parser) : (idleData v p).cur = p.cur := by
  unfold idleData
  split
  · exact addData_cur _ v p
  · split
    · exact addData_cur _ v p
    · rfl

theorem realTimeByte_cur (b : Byte) (p : Parser) : (realTimeByte b p).cur = p.cur := by
  unfold realTimeByte
  dsimp only
  repeat' split
  all_goals rfl

theorem systemCommonByte_cur (b : Byte) (p : Parser) : (systemCommonByte b p).cur = p.cur := by
  unfold systemCommonByte
  repeat' split
  all_goals rfl

theorem idleByte_cur (params : Params) (b : Byte) (p : Parser) : (idleByte params b p).cur = p.cur := by
  unfold idleByte
  split
  · exact idleData_cur _ p
  · split
    · rfl
    · exact systemCommonByte_cur b p

theorem sxFinish_cur (p : Parser) : (sxFinish p).cur = p.cur := by rw [sxFinish_eq]

theorem m1Byte_cur (params : Params) (b : Byte) (p : Parser) : (m1Byte params b p).cur = p.cur + 1 := by
  unfold m1Byte
  refine congrArg (· + 1) ?_
  split
  · exact realTimeByte_cur b p
  · split
    · split
      · rfl
      · split
        · exact sxFinish_cur p
        · rw [idleByte_cur, sxFinish_cur]
    · exact idleByte_cur params b p

/-! ### The run of a packet (R161) -/

theorem exec_m1Packet {s : State} {h : Nat} {p : Parser} (hs : s.phase = .quiescent) (hp : s.parser? h = some p)
    (bytes : List Byte) (ts : BitVec 64) :
    exec (.m1Packet h bytes ts) s =
      .next { s.setParser h (some (startPacket s.params.rsScope p)) with phase := .packet h bytes } :=
  (whenQuiescent_quiescent hs _).trans (withParser_some hp _)

/-- Settles O6: the parser of the packet is the one `startPacket` gives. -/
theorem packetStart : Obligations.PacketStart := fun _ _ _ bytes ts hs hp => exec_m1Packet hs hp bytes ts

/-- Settles O7: with `CUR` at the packet's length the step ends the packet. -/
theorem packetEnd : Obligations.PacketEnd := fun _ _ _ _ hs hp hcur => step_packetEnd hs hp hcur.ge

theorem runs_succ {s t : State} (hstep : step s = .next t) (k : Nat) : runs (k + 1) s = runs k t := by
  rw [runs, hstep]

/-- From any place of a packet: one step for each byte that is left, and one to end it. -/
theorem runs_rest_of_packet {h : Nat} {pkt : List Byte} (bytes : List Byte) {s : State} {p : Parser}
    (hs : s.phase = .packet h pkt) (hp : s.parser? h = some p) (hrest : pkt.drop p.cur = bytes) :
    runs (bytes.length + 1) s =
      .next (((s.setParser h (some (endPacket (m1Bytes s.params bytes p)))).finish).reply
        (.events (m1Bytes s.params bytes p).out)) := by
  induction bytes generalizing s p with
  | nil => exact runs_succ (step_packetEnd hs hp (List.drop_eq_nil_iff.mp hrest)) 0
  | cons b bytes ih =>
    have hb : pkt[p.cur]? = some b := by rw [← List.head?_drop, hrest, List.head?_cons]
    have hnext : pkt.drop (m1Byte s.params b p).cur = bytes := by
      rw [m1Byte_cur, ← List.drop_drop, hrest, List.drop_one, List.tail_cons]
    have hstep := (step_byte hs hp hb).trans (byteStepIsM1Byte s h pkt p b hs hp)
    rw [List.length_cons, runs_succ hstep, ih (s := s.setParser h _) hs (parser?_setParser_self _ hp) hnext,
      setParser_setParser]
    rfl

/-- Settles O19: the step that starts the packet, then the run over all its bytes. -/
theorem packetRunsItsBytes : Obligations.PacketRunsItsBytes := by
  intro s ports rest p hs hreq hp q
  let opened : State :=
    { s.setParser ports.inst (some (startPacket s.params.rsScope p)) with phase := .packet ports.inst ports.bytes, requests := rest }
  have hstep : step s = .next opened := (step_operation hs hreq).trans
    (exec_m1Packet (s := { s with requests := rest }) hs hp ports.bytes ports.timestamp)
  have hread : opened.parser? ports.inst = some (startPacket s.params.rsScope p) := parser?_setParser_self (s := s) _ hp
  rw [runs_succ hstep, runs_rest_of_packet ports.bytes rfl hread rfl]
  simp [opened, q, m1Packet, endPacket, State.setParser, State.finish, State.reply, hs]

/-- Settles O23: the write of `CFG.NOZ` to the parser. -/
theorem cfgWriteWritesNoz : Obligations.CfgWriteWritesNoz := fun _ _ _ _ hs hp =>
  (whenQuiescent_quiescent hs _).trans (withParser_some hp _)

/-! ### A SysEx cut into packets (R204) -/

/-- The parser is inside the frame of `payload`, or before it, with the bytes `rest` of the frame still to come. -/
def Awaits (payload : List U7) (rest : List Byte) (p : Parser) : Prop :=
  p.mode = .idle ∧ rest = 0xF0#8 :: (payload.map byteOf7 ++ [0xF7#8]) ∨
  p.mode = .collectingSysEx ∧ ∃ l, p.sxbuf ++ l = payload ∧ rest = l.map byteOf7 ++ [0xF7#8]

section
variable {params : Params} {payload : List U7} {rest : List Byte} {p : Parser}

theorem m1Byte_sox (hm : p.mode = .idle) : m1Byte params 0xF0#8 p = advance (openSysEx p) := by
  rw [m1Byte_status params p (by decide) (by decide), statusByte_idle _ hm]
  rfl

theorem m1Byte_byteOf7_collecting (hm : p.mode = .collectingSysEx) (v : U7) :
    m1Byte params (byteOf7 v) p = advance (collect v p) := by
  have hb : (byteOf7 v).toNat < 0x80 := by rw [byteOf7_toNat]; exact v.isLt
  rw [m1Byte_data params p hb, low7_byteOf7, dataEffect_collecting hm]

/-- A byte of the frame that is not its last emits nothing. -/
theorem awaits_m1Byte {b : Byte} (h : Awaits payload (b :: rest) p) (hrest : rest ≠ []) :
    (m1Byte params b p).out = p.out ∧ Awaits payload rest (m1Byte params b p) := by
  rcases h with ⟨hm, hframe⟩ | ⟨hm, l, hl, hframe⟩
  · obtain ⟨rfl, rfl⟩ := List.cons.inj hframe
    rw [m1Byte_sox hm]
    exact ⟨rfl, .inr ⟨rfl, payload, rfl, rfl⟩⟩
  · cases l with
    | nil => exact absurd (List.cons.inj hframe).2 hrest
    | cons v l =>
      obtain ⟨rfl, rfl⟩ := List.cons.inj hframe
      rw [m1Byte_byteOf7_collecting hm]
      exact ⟨rfl, .inr ⟨hm, l, by simpa [advance, collect] using hl, rfl⟩⟩

/-- The last byte of the frame emits its Event. -/
theorem out_m1Byte_of_awaits {b : Byte} (h : Awaits payload [b] p) :
    (m1Byte params b p).out = p.out ++ bufferEvents payload := by
  rcases h with ⟨-, hframe⟩ | ⟨hm, l, hl, hframe⟩
  · simp at hframe
  · obtain rfl : l = [] := by simpa using congrArg List.length hframe
    obtain rfl : b = 0xF7#8 := List.head_eq_of_cons_eq hframe
    rw [List.append_nil] at hl
    rw [m1Byte_eox, eoxEffect_collecting hm, sxFinish_eq_bufferEvents, hl]
    rfl

theorem awaits_m1Bytes (bytes : List Byte) (h : Awaits payload (bytes ++ rest) p) (hrest : rest ≠ []) :
    (m1Bytes params bytes p).out = p.out ∧ Awaits payload rest (m1Bytes params bytes p) := by
  induction bytes generalizing p with
  | nil => exact ⟨rfl, h⟩
  | cons b bytes ih =>
    obtain ⟨hout, hnext⟩ := awaits_m1Byte (params := params) h (by simp [hrest])
    obtain ⟨hout', hend⟩ := ih hnext
    exact ⟨hout'.trans hout, hend⟩

/-- Between packets the parser awaits the rest of the frame: neither the start nor the end of a packet writes `MODE` or `SXBUF`. -/
theorem awaits_m1Packet {pkt : List Byte} (h : Awaits payload (pkt ++ rest) p) (hrest : rest ≠ []) :
    (m1Packet params pkt p).out = [] ∧ Awaits payload rest (m1Packet params pkt p) :=
  awaits_m1Bytes (p := startPacket params.rsScope p) pkt h hrest

theorem out_m1Packet_of_awaits (h : Awaits payload rest p) (hrest : rest ≠ []) :
    (m1Packet params rest p).out = bufferEvents payload := by
  obtain ⟨bytes, b, rfl⟩ := List.eq_nil_or_concat' rest |>.resolve_left hrest
  obtain ⟨hout, hlast⟩ := awaits_m1Bytes (params := params) (p := startPacket params.rsScope p) bytes h (by simp)
  rw [m1Packet, m1Bytes_append]
  exact (out_m1Byte_of_awaits hlast).trans (by rw [hout]; rfl)

theorem deliver_of_awaits (packets : List (List Byte)) (h : Awaits payload (packets.flatten ++ rest) p) (hrest : rest ≠ []) :
    deliver params (packets ++ [rest]) p = packets.map (fun _ => []) ++ [bufferEvents payload] := by
  induction packets generalizing p with
  | nil => exact congrArg (· :: []) (out_m1Packet_of_awaits h hrest)
  | cons pkt packets ih =>
    rw [List.flatten_cons, List.append_assoc] at h
    obtain ⟨hout, hnext⟩ := awaits_m1Packet (params := params) h (by simp [hrest])
    rw [List.cons_append, deliver, hout, ih hnext]
    rfl

end

/-- Settles O20: an idle parser awaits the whole frame, and every packet but the last leaves it awaiting the rest. -/
theorem sysExAcrossPackets : Obligations.SysExAcrossPackets := by
  intro params p m d packets last hm hmfr hlast hframe
  have hawaits : Awaits (mfrBytes m ++ d) (packets.flatten ++ last) p := .inl ⟨hm, hframe⟩
  rw [deliver_of_awaits packets hawaits hlast, bufferEvents_of_mfrParse (mfrParse_mfrBytes m d hmfr)]

end Sys2Proof.Proofs
end

section
/-! PROOFS. SysEx7 framing (R200, R201): the frames of a body, the checks on the body, and the canonical form; and the Note On of
velocity 0 (R178). -/

namespace Sys2Proof.Proofs

open Sys2Proof.Machine

/-! ### The frames of a body (R200) -/

/-- `bytes` is `0xF0` and `body`, with a final `0xF7` or without one. -/
def FrameOf (bytes body : List Byte) : Prop :=
  bytes = 0xF0#8 :: body ++ [0xF7#8] ∨ bytes = 0xF0#8 :: body ∧ body.getLast? ≠ some 0xF7#8

theorem dropTerminator_of_getLast? {l : List Byte} (h : l.getLast? ≠ some 0xF7#8) : dropTerminator l = l := if_neg h

/-- What step 4 of R200 leaves is the body of the frame. -/
theorem frameOf_dropTerminator (l : List Byte) : FrameOf (0xF0#8 :: l) (dropTerminator l) := by
  by_cases h : l.getLast? = some 0xF7#8
  · obtain ⟨body, rfl⟩ := List.getLast?_eq_some_iff.mp h
    exact .inl (by rw [dropTerminator_append]; rfl)
  · rw [dropTerminator_of_getLast? h]
    exact .inr ⟨rfl, h⟩

section
variable {bytes body : List Byte} (hframe : FrameOf bytes body)
include hframe

theorem exists_cons_of_frameOf : ∃ l, bytes = 0xF0#8 :: l ∧ dropTerminator l = body := by
  rcases hframe with rfl | ⟨rfl, h⟩
  · exact ⟨_, rfl, dropTerminator_append body⟩
  · exact ⟨_, rfl, dropTerminator_of_getLast? h⟩

/-- With its terminator a frame is the same for both forms (R201). -/
theorem sx7Terminated_of_frameOf : sx7Terminated bytes = 0xF0#8 :: body ++ [0xF7#8] := by
  rcases hframe with rfl | ⟨rfl, h⟩
  · exact if_pos List.getLast?_concat
  · have hlast : (0xF0#8 :: body).getLast? ≠ some 0xF7#8 := by
      cases hbody : body.getLast? <;> simp_all [List.getLast?_cons]
    exact if_neg hlast

/-- The first byte of the body that is `0x80` or above fixes the cause. -/
theorem sx7FromBytes_of_payloadCause {c : Cause} (hc : payloadCause body = some c) (g : U4) :
    sx7FromBytes bytes g = .error (.malformedMessage c) := by
  obtain ⟨l, rfl, rfl⟩ := exists_cons_of_frameOf hframe
  simp [sx7FromBytes, hc]

/-- Both frames of a body have the same result. -/
theorem sx7FromBytes_of_frameOf (g : U4) : sx7FromBytes bytes g = sx7FromBytes ([0xF0#8] ++ body ++ [0xF7#8]) g := by
  obtain ⟨l, rfl, rfl⟩ := exists_cons_of_frameOf hframe
  simp only [List.cons_append, List.nil_append, sx7FromBytes, dropTerminator_append]

end

theorem payloadCause_singleton {b : Byte} (hb : ¬ b.toNat < 0x80) (h7 : b ≠ 0xF7#8) :
    payloadCause [b] = some .terminatorIncorrect := by
  simp [payloadCause, isData, hb, h7]

theorem payloadCause_cons_status {b : Byte} {post : List Byte} (hb : ¬ b.toNat < 0x80) (h7 : b ≠ 0xF7#8) (hpost : post ≠ []) :
    payloadCause (b :: post) = some .statusInPayload := by
  simp [payloadCause, isData, hb, h7, hpost]

/-! ### Frames of a 7-bit payload -/

section
variable {bytes : List Byte} {l : List U7} (hframe : FrameOf bytes (l.map byteOf7))
include hframe

theorem sx7FromBytes_of_mfrParse {m : Mfr} {d : List U7} (h : mfrParse l = some (m, d)) (g : U4) :
    sx7FromBytes bytes g = .ok (.sysEx7 m d g) := by
  rw [sx7FromBytes_of_frameOf hframe, sx7FromBytes_frame, h]

theorem sx7FromBytes_of_mfrParse_none (h : mfrParse l = none) (g : U4) :
    sx7FromBytes bytes g = .error (.malformedMessage .manufacturerAbsent) := by
  rw [sx7FromBytes_of_frameOf hframe, sx7FromBytes_frame, h]

end

theorem isData_of_payloadCause_none {body : List Byte} (h : payloadCause body = none) : ∀ b ∈ body, isData b = true := by
  induction body with
  | nil => simp
  | cons b body ih =>
    by_cases hb : isData b = true
    · rw [payloadCause, if_pos hb] at h
      exact List.forall_mem_cons.mpr ⟨hb, ih h⟩
    · rw [payloadCause, if_neg hb] at h
      split_ifs at h

/-- Bytes below `0x80` are those that carry a 7-bit payload. -/
theorem exists_payload {body : List Byte} (h : ∀ b ∈ body, isData b = true) : ∃ l : List U7, body = l.map byteOf7 := by
  refine ⟨body.map low7, ?_⟩
  rw [List.map_map]
  exact (List.map_id body).symm.trans (List.map_congr_left fun b hb => (byteOf7_low7 (h b hb)).symm)

/-- A 7-bit payload without the terminator is a frame too: its last byte is below `0x80`. -/
theorem frameOf_payload (l : List U7) : FrameOf (0xF0#8 :: l.map byteOf7) (l.map byteOf7) := by
  refine .inr ⟨rfl, fun hlast => ?_⟩
  rw [List.getLast?_map] at hlast
  obtain ⟨v, -, hv⟩ := Option.map_eq_some_iff.mp hlast
  have hlt := (byteOf7_toNat v).trans_lt v.isLt
  rw [hv] at hlt
  exact absurd hlt (by decide)

/-- An accepted buffer is a frame of a manufacturer and data, and the Event has both. -/
theorem frameOf_of_sx7FromBytes_ok {bytes : List Byte} {g : U4} {e : Event} (h : sx7FromBytes bytes g = .ok e) :
    ∃ m d, FrameOf bytes ((mfrBytes m ++ d).map byteOf7) ∧ e = .sysEx7 m d g := by
  match bytes with
  | [] => cases h
  | b :: rest =>
    by_cases hb : b = 0xF0#8
    · subst hb
      have hframe := frameOf_dropTerminator rest
      cases hc : payloadCause (dropTerminator rest) with
      | some c => cases (sx7FromBytes_of_payloadCause hframe hc g).symm.trans h
      | none =>
        obtain ⟨l, hl⟩ := exists_payload (isData_of_payloadCause_none hc)
        rw [hl] at hframe
        cases hparse : mfrParse l with
        | none => cases (sx7FromBytes_of_mfrParse_none hframe hparse g).symm.trans h
        | some x =>
          cases (sx7FromBytes_of_mfrParse hframe hparse g).symm.trans h
          exact ⟨x.1, x.2, by rwa [mfrBytes_of_mfrParse hparse], rfl⟩
    · simp [sx7FromBytes, hb] at h

/-! ### `SX7.FROMBYTES` and `PACK.M1` -/

theorem exec_sx7FromBytes (bytes : List Byte) (group : Option U4) (s : State) :
    exec (.sx7FromBytes bytes group) s = returnOrRaise s .event (sx7FromBytes bytes (group.getD 0#4)) := rfl

theorem reply_injective (s : State) : Function.Injective s.reply := fun a b h => by
  simpa [State.reply] using h

theorem sx7FromBytes_ok_of_exec {bytes : List Byte} {g : U4} {s : State} {e : Event}
    (h : exec (.sx7FromBytes bytes (some g)) s = .next (s.reply (.event e))) : sx7FromBytes bytes g = .ok e := by
  rw [exec_sx7FromBytes, Option.getD_some] at h
  cases hresult : sx7FromBytes bytes g with
  | ok e' =>
    rw [hresult, returnOrRaise_ok] at h
    rw [Reply.event.inj (reply_injective s (Host.Outcome.next.inj h))]
  | error c =>
    rw [hresult, returnOrRaise_error] at h
    cases reply_injective s (Host.Outcome.next.inj h)

/-- Settles O36: the two failures before the body, the causes of its first bad byte, and the frames of a 7-bit payload. -/
theorem sx7FromBytesByCases : Obligations.Sx7FromBytesByCases := by
  intro s group run fails isDatum
  refine ⟨rfl, fun b rest hb => ?_, fun bytes body hframe => ?_⟩
  · change exec _ s = _
    rw [exec_sx7FromBytes, sx7FromBytes, if_pos hb]
    rfl
  have hcause {c : Cause} (hc : payloadCause body = some c) : fails bytes c := by
    change exec _ s = _
    rw [exec_sx7FromBytes, sx7FromBytes_of_payloadCause hframe hc, returnOrRaise_error]
  have habsent {l : List U7} (hbody : body = l.map byteOf7) (hparse : mfrParse l = none) : fails bytes .manufacturerAbsent := by
    change exec _ s = _
    rw [exec_sx7FromBytes, sx7FromBytes_of_mfrParse_none (hbody ▸ hframe) hparse, returnOrRaise_error]
  have hevent {l d : List U7} {m : Mfr} (hbody : body = l.map byteOf7) (hparse : mfrParse l = some (m, d)) :
      run bytes (.event (.sysEx7 m d (group.getD 0#4))) := by
    change exec _ s = _
    rw [exec_sx7FromBytes, sx7FromBytes_of_mfrParse (hbody ▸ hframe) hparse, returnOrRaise_ok]
  refine ⟨fun pre post hbody hpre => hcause ?_, fun pre b hbody hpre hb h7 => hcause ?_,
    fun pre b post hbody hpre hb h7 hpost => hcause ?_, fun hbody => habsent (l := []) hbody rfl,
    fun d hbody hlen hd => ?_, fun b d hb hbody => hevent hbody (mfrParse_oneByte hb d),
    fun b2 b3 d hbody => hevent hbody (mfrParse_threeByte b2 b3 d)⟩
  · rw [hbody, payloadCause_append pre _ hpre]
    rfl
  · rw [hbody, payloadCause_append pre _ hpre, payloadCause_singleton hb h7]
  · rw [hbody, payloadCause_append pre _ hpre, payloadCause_cons_status hb h7 hpost]
  · obtain ⟨l, rfl⟩ := exists_payload (body := d) fun b hb => by simpa [isData] using hd b hb
    exact habsent (l := 0#7 :: l) hbody (mfrParse_incomplete (by simpa using hlen))

theorem sx7Canon_eq (m : Mfr) (d : List U7) : sx7Canon m d = [0xF0#8] ++ (mfrBytes m ++ d).map byteOf7 ++ [0xF7#8] := by
  simp [sx7Canon]

theorem exec_packM1_sysEx7 (m : Mfr) (d : List U7) (g : U4) (s : State) :
    exec (.packM1 (.sysEx7 m d g)) s = .next (s.reply (.bytes ([0xF0#8] ++ (mfrBytes m ++ d).map byteOf7 ++ [0xF7#8]))) := by
  rw [← sx7Canon_eq]
  rfl

theorem exec_sx7FromBytes_of_mfrBytes {bytes : List Byte} {m : Mfr} {d : List U7} (hm : m ≠ .oneByte 0#7)
    (hframe : FrameOf bytes ((mfrBytes m ++ d).map byteOf7)) (g : U4) (s : State) :
    exec (.sx7FromBytes bytes (some g)) s = .next (s.reply (.event (.sysEx7 m d g))) := by
  rw [exec_sx7FromBytes, sx7FromBytes_of_mfrParse hframe (mfrParse_mfrBytes m d hm), returnOrRaise_ok]
  rfl

/-- Settles O37: an accepted buffer is a frame of its Event, whose canonical form is that frame with its terminator. -/
theorem canonicalForm : Obligations.CanonicalForm := by
  intro s g
  refine ⟨fun bytes e hexec => ?_, fun m d hm => ?_⟩
  · obtain ⟨m, d, hframe, rfl⟩ := frameOf_of_sx7FromBytes_ok (sx7FromBytes_ok_of_exec hexec)
    rw [exec_packM1_sysEx7]
    exact congrArg (fun bs => Host.Outcome.next (s.reply (.bytes bs))) (sx7Terminated_of_frameOf hframe).symm
  · intro frame
    exact ⟨exec_packM1_sysEx7 m d g s, exec_sx7FromBytes_of_mfrBytes hm (.inl rfl) g s,
      exec_sx7FromBytes_of_mfrBytes hm (frameOf_payload _) g s⟩

/-! ### Note On with velocity 0 (R178) -/

theorem exec_umpNoteOn {s : State} {ws : List Word} (hs : s.phase = .group ws) (hws : ws ≠ []) (g ch : U4) (note velocity : U7) :
    exec (.umpNoteOn g ch (byteOf7 note) (byteOf7 velocity)) s = decoded s (some (.noteOn note velocity ch g)) := by
  have hlen : ¬ ws.length < 1 := by simpa [Nat.lt_one_iff] using hws
  calc exec (.umpNoteOn g ch (byteOf7 note) (byteOf7 velocity)) s
      = umpRow s 1 fun _ => field7 (byteOf7 note) fun n => field7 (byteOf7 velocity) fun v => .event (.noteOn n v ch g) := rfl
    _ = decoded s (some (.noteOn note velocity ch g)) := by
      rw [umpRow_group hs, if_neg hlen, field7_byteOf7, field7_byteOf7]
      rfl

/-- Settles O11: the parser's rule with `CFG.NOZ`; each of the others keeps the Note On. -/
theorem noteOnVelocityZero : Obligations.NoteOnVelocityZero := by
  intro s n g a
  refine ⟨fun h pkt p hs hp hm hpend => ?_, fun ws hs hws => exec_umpNoteOn hs hws g n a 0#7, ?_, rfl, fun protocol => ?_⟩
  · obtain ⟨-, hneed, -⟩ := need_channel n
    have hevent : noteOnEvent p.noz n a 0#7 = if p.noz = true then .noteOff a 0#7 n 0#4 else .noteOn a 0#7 n 0#4 := by
      simp [noteOnEvent, Config.m1Group]
    rw [exec_data_last hs hp hm hpend hneed (messageEvent_noteOn ..), hevent]
  · have hmake := evMake_rawOf (.noteOn a 0#7 n g)
    rw [exec_evMake]
    exact congrArg (returnOrRaise s .event) hmake
  · refine congrArg (fun w => Host.Outcome.next (s.reply (.groups [[w]]))) ?_
    exact pkWord_pkNib_pkNib ..

end Sys2Proof.Proofs
end

section
/-! PROOFS. The message rules of unit M2D (R223 to R266): what a word row answers in an open packet, by its rule's result; what 7-bit fields
give; the rows of message types `0x1`, `0x2` and `0x4`, and the skipped first words. -/

namespace Sys2Proof.Proofs

open Sys2Proof.Machine

/-! ### A word row in an open packet -/

section
variable {s : State} {ws : List Word} (hs : s.phase = .group ws) {n : Nat} {read : List Word → UmpResult}
include hs

theorem umpRow_long (hlen : n ≤ ws.length) : umpRow s n read = finishDecode s (read ws) := by
  rw [umpRow_group hs, if_neg hlen.not_gt]

theorem umpRow_short (hlen : ws.length < n) : umpRow s n read = decoded s none := by
  rw [umpRow_group hs, if_pos hlen]
  rfl

theorem umpRow_event (hlen : n ≤ ws.length) {e : Event} (hread : read ws = .event e) :
    umpRow s n read = decoded s (some e) := by
  rw [umpRow_long hs hlen, hread]
  rfl

/-- A skip needs no length: a packet that is too short is skipped too. -/
theorem umpRow_skip {reason : SkipReason} (hread : read ws = .skip reason) : umpRow s n read = decoded s none := by
  rcases Nat.lt_or_ge ws.length n with hlen | hlen
  · exact umpRow_short hs hlen
  · rw [umpRow_long hs hlen, hread]
    rfl

end

/-! ### 7-bit fields (R223) -/

theorem field7_of_skips (x : Byte) {k : U7 → UmpResult} (h : ∀ v, k v = .skip .fieldOutOfRange) :
    field7 x k = .skip .fieldOutOfRange := by
  rcases field7_eq x k with hskip | ⟨v, hv⟩
  · exact hskip
  · rw [hv, h v]

theorem field7_field7 (a b : U7) (k : U7 → U7 → UmpResult) :
    field7 (byteOf7 a) (fun u => field7 (byteOf7 b) (k u)) = k a b := by
  rw [field7_byteOf7, field7_byteOf7]

/-- Of two fields the first that is out of range skips. -/
theorem field7_field7_high {x y : Byte} (h : 0x80 ≤ x.toNat ∨ 0x80 ≤ y.toNat) (k : U7 → U7 → UmpResult) :
    field7 x (fun u => field7 y (k u)) = .skip .fieldOutOfRange := by
  rcases h with hx | hy
  · exact field7_high hx _
  · exact field7_of_skips x fun _ => field7_high hy _

/-! ### Message types `0x1` and `0x2` -/

/-- Settles O46: each row of one word, by its 7-bit fields. -/
theorem umpSystemMessages : Obligations.UmpSystemMessages := by
  intro s ws g b2 b3 hs hws
  have hlen : 1 ≤ ws.length := List.length_pos_iff.mpr hws
  exact ⟨fun d => umpRow_event hs hlen (field7_byteOf7 d _), fun h => umpRow_skip hs (field7_high h _),
    fun l m => umpRow_event hs hlen (field7_field7 l m _), fun h => umpRow_skip hs (field7_field7_high h _),
    fun d => umpRow_event hs hlen (field7_byteOf7 d _), fun h => umpRow_skip hs (field7_high h _),
    umpRow_event hs hlen rfl, umpRow_event hs hlen rfl, umpRow_event hs hlen rfl, umpRow_event hs hlen rfl,
    umpRow_event hs hlen rfl, umpRow_event hs hlen rfl, umpRow_event hs hlen rfl⟩

/-- Settles O47: five rows of two 7-bit fields and two of one. -/
theorem umpMidi1Messages : Obligations.UmpMidi1Messages := by
  intro s ws g ch b2 b3 hs hws
  have hlen : 1 ≤ ws.length := List.length_pos_iff.mpr hws
  refine ⟨fun a b => ?_, fun h => ?_, fun h => ?_⟩
  · have hpair (k) := field7_field7 a b k
    have hone (k) := field7_byteOf7 a k
    exact ⟨umpRow_event hs hlen (hpair _), umpRow_event hs hlen (hpair _), umpRow_event hs hlen (hpair _),
      umpRow_event hs hlen (hpair _), umpRow_event hs hlen (hone _), umpRow_event hs hlen (hone _),
      umpRow_event hs hlen (hpair _)⟩
  · have hskip (k) := field7_field7_high h k
    exact ⟨umpRow_skip hs (hskip _), umpRow_skip hs (hskip _), umpRow_skip hs (hskip _), umpRow_skip hs (hskip _),
      umpRow_skip hs (hskip _)⟩
  · exact ⟨umpRow_skip hs (field7_high h _), umpRow_skip hs (field7_high h _)⟩

/-! ### Message type `0x4` -/

theorem two_le_length_cons_cons (w0 w1 : Word) (ws : List Word) : 2 ≤ (w0 :: w1 :: ws).length := by simp

/-- Settles O48: three rows of one 7-bit field and four of two, with word 1 whole. -/
theorem umpMidi2Controllers : Obligations.UmpMidi2Controllers := by
  intro s w0 w1 ws g ch b2 b3 hs
  have hlen := two_le_length_cons_cons w0 w1 ws
  refine ⟨fun a b => ?_, fun h => ?_, fun h => ?_⟩
  · have hpair (k) := field7_field7 a b k
    have hone (k) := field7_byteOf7 a k
    exact ⟨umpRow_event hs hlen (hone _), umpRow_event hs hlen (hone _), umpRow_event hs hlen (hpair _),
      umpRow_event hs hlen (hpair _), umpRow_event hs hlen (hpair _), umpRow_event hs hlen (hpair _),
      umpRow_event hs hlen (hone _)⟩
  · have hskip (k) := field7_field7_high h k
    exact ⟨umpRow_skip hs (hskip _), umpRow_skip hs (hskip _), umpRow_skip hs (hskip _), umpRow_skip hs (hskip _)⟩
  · have hskip (k) := field7_high h k
    exact ⟨umpRow_skip hs (hskip _), umpRow_skip hs (hskip _), umpRow_skip hs (hskip _)⟩

/-- Settles O49: five rows of one 7-bit field and two of none; the halves of word 1 are what it was packed from. -/
theorem umpMidi2Notes : Obligations.UmpMidi2Notes := by
  intro s w0 w1 ws g ch b2 b3 hs
  have hlen := two_le_length_cons_cons w0 w1 ws
  refine ⟨fun a hi lo hw => ?_, fun a => ?_, umpRow_event hs hlen rfl, umpRow_event hs hlen rfl, fun h => ?_⟩
  · have hhi : hiHalf w1 = hi := by rw [hw]; exact hiHalf_pkHalf hi lo
    have hlo : loHalf w1 = lo := by rw [hw]; exact loHalf_pkHalf hi lo
    rw [← hhi, ← hlo]
    exact ⟨umpRow_event hs hlen (field7_byteOf7 a _), umpRow_event hs hlen (field7_byteOf7 a _)⟩
  · have hone (k) := field7_byteOf7 a k
    exact ⟨umpRow_event hs hlen (hone _), umpRow_event hs hlen (hone _), umpRow_event hs hlen (hone _)⟩
  · have hskip (k) := field7_high h k
    exact ⟨umpRow_skip hs (hskip _), umpRow_skip hs (hskip _), umpRow_skip hs (hskip _), umpRow_skip hs (hskip _),
      umpRow_skip hs (hskip _)⟩

section
variable {b3 x0 x1 x2 x3 : Byte} (g ch : U4)

theorem m2ProgramChangeResult_bank (hflag : b3.getLsbD 0 = true) :
    m2ProgramChangeResult g ch b3 (pkWord x0 x1 x2 x3) =
      field7 x0 fun p => field7 x2 fun m => field7 x3 fun l => .event (.m2ProgramChange p (some (m, l)) ch g) := by
  simp only [m2ProgramChangeResult, hflag, if_true, wordByte0_pkWord, wordByte2_pkWord, wordByte3_pkWord]

theorem m2ProgramChangeResult_noBank (hflag : b3.getLsbD 0 = false) :
    m2ProgramChangeResult g ch b3 (pkWord x0 x1 x2 x3) = field7 x0 fun p => .event (.m2ProgramChange p none ch g) := by
  simp only [m2ProgramChangeResult, hflag, Bool.false_eq_true, if_false, wordByte0_pkWord]

theorem m2ProgramChangeResult_programHigh (hx : 0x80 ≤ x0.toNat) :
    m2ProgramChangeResult g ch b3 (pkWord x0 x1 x2 x3) = .skip .fieldOutOfRange := by
  rw [m2ProgramChangeResult, wordByte0_pkWord, field7_high hx]

end

/-- Settles O50: the rule's result by the bank-valid flag, with the bytes of word 1. -/
theorem umpMidi2ProgramChange : Obligations.UmpMidi2ProgramChange := by
  intro s w0 w1 ws g ch b2 b3 x0 x1 x2 x3 hs hw
  subst hw
  have hlen := two_le_length_cons_cons w0 (pkWord x0 x1 x2 x3) ws
  refine ⟨fun p m l h0 h2 h3 hflag => umpRow_event hs hlen ?_, fun p h0 hflag => umpRow_event hs hlen ?_,
    fun h => umpRow_skip hs (m2ProgramChangeResult_programHigh g ch h), fun hflag h => umpRow_skip hs (reason := .fieldOutOfRange) ?_⟩
  · subst h0 h2 h3
    exact (m2ProgramChangeResult_bank g ch hflag).trans ((field7_byteOf7 p _).trans (field7_field7 m l _))
  · subst h0
    exact (m2ProgramChangeResult_noBank g ch hflag).trans (field7_byteOf7 p _)
  · exact (m2ProgramChangeResult_bank g ch hflag).trans (field7_of_skips x0 fun _ => field7_field7_high h _)

/-! ### The skipped first words -/

/-- Settles O52: each of these rows skips whatever it reads. -/
theorem umpSkippedWords : Obligations.UmpSkippedWords := by
  intro s ws g ch b2 b3 rest hs skips
  have row {i : Instr} {n : Nat} {reason : SkipReason} (h : exec i s = umpRow s n fun _ => .skip reason) : skips i :=
    h.trans (umpRow_skip hs rfl)
  exact ⟨⟨row rfl, row rfl, row rfl, row rfl, row rfl, row rfl, row rfl, row rfl, row rfl, row rfl, row rfl⟩,
    ⟨fun _ => row rfl, fun _ => row rfl, fun _ => row rfl, fun _ => row rfl, row rfl, row rfl, row rfl, row rfl, row rfl,
      row rfl⟩,
    ⟨fun _ => row rfl, row rfl⟩,
    fun _ => ⟨row rfl, row rfl, row rfl, fun _ => row rfl, fun _ => row rfl⟩,
    row rfl⟩

end Sys2Proof.Proofs
end

section
/-! PROOFS. A complete SysEx7 group (R247): its rule gives what `SX7.FROMBYTES` gives for the payload between `0xF0` and `0xF7`. -/

namespace Sys2Proof.Proofs

open Sys2Proof.Machine

theorem sx7Positions_pkWord (x0 x1 x2 x3 x4 x5 : Byte) :
    sx7Positions x0 x1 (pkWord x2 x3 x4 x5) = [x0, x1, x2, x3, x4, x5] := by
  simp [sx7Positions]

/-- Both fail at a payload byte that is `0x80` or above; of a 7-bit payload both parse the manufacturer. -/
theorem finishDecode_sx7CompleteResult {n : U4} (hn : n.toNat ≤ 6) (g : U4) (b2 b3 : Byte) (w1 : Word) (s : State) :
    finishDecode s (sx7CompleteResult g n b2 b3 w1) =
      decoded s (sx7FromBytes ([0xF0#8] ++ (sx7Positions b2 b3 w1).take n.toNat ++ [0xF7#8]) g).toOption := by
  rw [sx7CompleteResult, if_neg (by omega)]
  generalize (sx7Positions b2 b3 w1).take n.toNat = payload
  cases hpayload : u7FromBytes payload with
  | none =>
    obtain ⟨c, hc⟩ := payloadCause_of_u7FromBytes_none hpayload
    have hframe : FrameOf ([0xF0#8] ++ payload ++ [0xF7#8]) payload := .inl rfl
    rw [sx7FromBytes_of_payloadCause hframe hc]
    rfl
  | some l =>
    rw [map_byteOf7_of_u7FromBytes hpayload, sx7FromBytes_frame]
    dsimp only
    cases mfrParse l <;> rfl

section
variable {s : State} {w0 w1 : Word} {ws : List Word} (hs : s.phase = .group (w0 :: w1 :: ws))
include hs

theorem exec_sx7Complete (g n : U4) (b2 b3 : Byte) :
    exec (.sx7Complete g n b2 b3) s = finishDecode s (sx7CompleteResult g n b2 b3 w1) :=
  umpRow_long hs (two_le_length_cons_cons w0 w1 ws)

theorem exec_sx7Complete_badByteCount {n : U4} (hn : 6 < n.toNat) (g : U4) (b2 b3 : Byte) :
    exec (.sx7Complete g n b2 b3) s = decoded s none := by
  rw [exec_sx7Complete hs, sx7CompleteResult, if_pos hn]
  rfl

end

/-- Settles O51: the frame of the payload is the input of `SX7.FROMBYTES`, which accepts that of any manufacturer but `oneByte(0x00)`. -/
theorem umpSysExComplete : Obligations.UmpSysExComplete := by
  intro s w0 ws g n x0 x1 x2 x3 x4 x5 hs payload
  have hresult (hn : n.toNat ≤ 6) : exec (.sx7Complete g n x0 x1) s =
      decoded s (sx7FromBytes ([0xF0#8] ++ payload ++ [0xF7#8]) g).toOption := by
    rw [exec_sx7Complete hs, finishDecode_sx7CompleteResult hn]
    exact congrArg (fun l => decoded s (sx7FromBytes ([0xF0#8] ++ List.take n.toNat l ++ [0xF7#8]) g).toOption)
      (sx7Positions_pkWord ..)
  refine ⟨fun hn => exec_sx7Complete_badByteCount hs hn g x0 x1, fun hn => ?_, fun m d hn hm hpayload => ?_⟩
  · rw [hresult hn]
    cases sx7FromBytes ([0xF0#8] ++ payload ++ [0xF7#8]) g <;> rfl
  · have hframe : FrameOf ([0xF0#8] ++ payload ++ [0xF7#8]) ((mfrBytes m ++ d).map byteOf7) := .inl (by rw [hpayload]; rfl)
    rw [hresult hn, sx7FromBytes_of_mfrParse hframe (mfrParse_mfrBytes m d hm)]
    rfl

end Sys2Proof.Proofs
end

section
/-! PROOFS. `M2.DECODE` from its issue to its outcome (R221, R222, R267 to R271): its beginning, the length of the packet, and the whole run. -/

namespace Sys2Proof.Proofs

open Sys2Proof.Machine

/-! ### The beginning -/

theorem decoded_of_quiescent {s : State} (hs : s.phase = .quiescent) (e : Option Event) :
    decoded s e = .next (s.reply (.decoded e)) := by
  rw [decoded, ← hs]
  rfl

section
variable {s : State} (hs : s.phase = .quiescent) (ts : BitVec 64) (protocol : Protocol)
include hs

theorem exec_m2Decode_cons (w : Word) (ws : List Word) :
    exec (.m2Decode (w :: ws) ts protocol) s = .next { s with phase := .group (w :: ws) } :=
  whenQuiescent_quiescent hs _

theorem exec_m2Decode_nil : exec (.m2Decode [] ts protocol) s = .next (s.reply (.decoded none)) :=
  (whenQuiescent_quiescent hs _).trans (decoded_of_quiescent hs none)

end

/-- Settles O45: the two cases of the words. -/
theorem decodeBegins : Obligations.DecodeBegins := by
  refine fun s words ts protocol hs => ⟨fun hwords => ?_, exec_m2Decode_nil hs ts protocol⟩
  obtain ⟨w, ws, rfl⟩ := List.exists_cons_of_ne_nil hwords
  exact exec_m2Decode_cons hs ts protocol w ws

/-! ### The length of the packet -/

/-- The end of the operation overwrites the phase. -/
theorem finishDecode_phase (s : State) (phase : Phase) (r : UmpResult) :
    finishDecode { s with phase := phase } r = finishDecode s r := by
  cases r <;> rfl

/-- Settles O53: the first word's row reads no more than the words of its message type. -/
theorem umpPacketLength : Obligations.UmpPacketLength := by
  refine ⟨fun s ts protocol hs => exec_m2Decode_nil hs ts protocol, fun s ws w n hs hn => ?_⟩
  obtain ⟨read, hrow, hreads⟩ := decodeWord_reads w n hn
  refine ⟨fun hshort => (hrow s).trans (umpRow_short hs hshort), fun hlen surplus => ?_⟩
  have hlen' : n ≤ (ws.take n ++ surplus).length := by simp [hlen]
  rw [decode, hrow, hrow, umpRow_long hs hlen, umpRow_long rfl hlen', finishDecode_phase, hreads ws surplus hlen]

/-! ### The row of a first word -/

theorem decodeWord_isOperation (w : Word) : (decodeWord w).isOperation = false := by
  unfold decodeWord decodeSys1 decodeCv1 decodeSx7 decodeCv2
  dsimp only
  repeat' split
  all_goals rfl

/-- In a MIDI 1.0 packet a word row faults, and a byte row does not. -/
theorem decodeWord_not_byteRow (w : Word) (f : Params → Parser → Parser) : ¬ ∀ s, exec (decodeWord w) s = byteRow s f := by
  intro hbyte
  obtain ⟨n, read, hword⟩ := decodeWord_umpRow w
  cases (hword { State.reset with phase := .packet 0 [] }).symm.trans (hbyte _)

theorem decodeWord_refuses (w : Word) :
    ∃ n read, (∀ s, exec (decodeWord w) s = umpRow s n read) ∧ ∀ ws r, read ws = .refused r → r = .data128NotSpecified := by
  rcases exec_shape (decodeWord w) with ⟨f, hbyte⟩ | ⟨n, read, hrow, hread⟩ | hop
  · exact absurd hbyte (decodeWord_not_byteRow w f)
  · refine ⟨n, read, hrow, fun ws r hr => ?_⟩
    rcases hread with hnever | ⟨_, _, _, _, halways⟩
    · exact absurd hr (hnever ws r)
    · exact UmpResult.refused.inj (hr.symm.trans (halways ws))
  · cases (decodeWord_isOperation w).symm.trans hop

/-! ### The whole run -/

/-- How `M2.DECODE` ends: with `none` or an Event, or in the refusal (R221, R267). -/
def endOfDecode (s : State) : Option (Option Event) → Result
  | some e => decoded s e
  | none => .refused .data128NotSpecified

theorem exists_endOfDecode_of_finishDecode {r : UmpResult} (hr : ∀ q, r = .refused q → q = .data128NotSpecified) :
    ∃ a, ∀ s, finishDecode s r = endOfDecode s a := by
  cases r with
  | event e => exact ⟨some (some e), fun _ => rfl⟩
  | skip reason => exact ⟨some none, fun _ => rfl⟩
  | refused q => exact ⟨none, fun _ => congrArg Host.Outcome.refused (hr q rfl)⟩

/-- The row of the first word ends the operation, from the words alone. -/
theorem exists_endOfDecode_of_group (w : Word) (ws : List Word) :
    ∃ a, ∀ s, s.phase = .group (w :: ws) → exec (decode (.word w)) s = endOfDecode s a := by
  obtain ⟨n, read, hrow, hrefuses⟩ := decodeWord_refuses w
  obtain ⟨a, ha⟩ := exists_endOfDecode_of_finishDecode
    (r := if (w :: ws).length < n then .skip .shortGroup else read (w :: ws)) fun q hq => by
      split at hq
      case isTrue => cases hq
      case isFalse => exact hrefuses _ q hq
  exact ⟨a, fun s hs => by rw [decode, hrow, umpRow_group hs, ha]⟩

theorem runs_one (s : State) : runs 1 s = step s := by
  unfold runs
  cases step s <;> rfl

theorem step_m2Decode {s : State} {ports : Ports} {rest : List Request} (hs : s.phase = .quiescent)
    (hreq : s.requests = ⟨0x4#4, ports⟩ :: rest) :
    step s = exec (.m2Decode ports.words ports.timestamp ports.protocol) { s with requests := rest } :=
  step_operation hs hreq

/-- Each sequence of words has one end, whatever the state, the timestamp and the protocol. -/
theorem exists_endOfDecode (words : List Word) :
    ∃ a, ∀ (s : State) (ports : Ports) (rest : List Request), s.phase = .quiescent → s.requests = ⟨0x4#4, ports⟩ :: rest →
      ports.words = words → runs (if words = [] then 1 else 2) s = endOfDecode { s with requests := rest } a := by
  cases words with
  | nil =>
    refine ⟨some none, fun s ports rest hs hreq hwords => ?_⟩
    have hs' : ({ s with requests := rest } : State).phase = .quiescent := hs
    rw [if_pos rfl, runs_one, step_m2Decode hs hreq, hwords]
    exact (exec_m2Decode_nil hs' _ _).trans (decoded_of_quiescent hs' none).symm
  | cons w ws =>
    obtain ⟨a, ha⟩ := exists_endOfDecode_of_group w ws
    refine ⟨a, fun s ports rest hs hreq hwords => ?_⟩
    have hbegin : step s = .next { s with requests := rest, phase := .group (w :: ws) } := by
      rw [step_m2Decode hs hreq, hwords]
      exact exec_m2Decode_cons (s := { s with requests := rest }) hs _ _ w ws
    rw [if_neg (List.cons_ne_nil w ws), runs_succ hbegin, runs_one, step_word rfl, ha _ rfl]
    cases a <;> rfl

/-- Settles O54: the function that gives each sequence of words its end. -/
theorem decodeIsAFunctionOfWords : Obligations.DecodeIsAFunctionOfWords := by
  choose f hf using exists_endOfDecode
  refine ⟨f, fun s ports rest hs hreq => ?_⟩
  rw [hf ports.words s ports rest hs hreq rfl]
  cases f ports.words with
  | none => rfl
  | some e => exact decoded_of_quiescent (s := { s with requests := rest }) hs e

end Sys2Proof.Proofs
end

section
/-! PROOFS. The packers (R280 to R291): what `PACK.M1` and `PACK.UMP` answer for the result of their function, the word groups written out
field by field, and a SysEx7 payload cut into groups. -/

namespace Sys2Proof.Proofs

open Sys2Proof.Machine

/-! ### `PACK.M1` -/

theorem exec_packM1_of_ok {e : Event} {bytes : List Byte} (h : packM1 e = .ok bytes) (s : State) :
    exec (.packM1 e) s = .next (s.reply (.bytes bytes)) := by
  rw [← returnOrRefuse_ok, ← h]
  rfl

/-- Settles O55: the bytes of each variant. -/
theorem packM1Bytes : Obligations.PackM1Bytes := by
  intro s a b v ch g m d packs
  have answers {e : Event} {bytes : List Byte} (h : packM1 e = .ok bytes) : packs e bytes := exec_packM1_of_ok h s
  exact ⟨answers rfl, answers rfl, answers rfl, answers rfl, answers rfl, answers rfl, answers rfl, answers rfl, answers rfl,
    answers rfl, answers rfl, answers rfl, answers rfl, answers rfl, answers rfl, answers rfl, answers rfl,
    exec_packM1_sysEx7 m d g s⟩

/-! ### `PACK.UMP` of one word (R286, R287) -/

theorem exec_packUmp_of_ok {e : Event} {protocol : Protocol} {groups : List (List Word)} (h : packUmp protocol e = .ok groups)
    (s : State) : exec (.packUmp e protocol) s = .next (s.reply (.groups groups)) := by
  rw [← returnOrRefuse_ok, ← h]
  rfl

theorem exec_packUmp_of_error {e : Event} {protocol : Protocol} {r : Refusal} (h : packUmp protocol e = .error r) (s : State) :
    exec (.packUmp e protocol) s = .refused r := by
  rw [← returnOrRefuse_error s .groups, ← h]
  rfl

theorem cv1Group_eq (g k ch : U4) (d0 d1 : Byte) : cv1Group g k ch d0 d1 = [[0x2#4 ++ g ++ k ++ ch ++ d0 ++ d1]] := by
  rw [cv1Group, pkWord_pkNib_pkNib]

theorem sys1Group_eq (g : U4) (st d0 d1 : Byte) : sys1Group g st d0 d1 = [[0x1#4 ++ g ++ st ++ d0 ++ d1]] := rfl

/-- Settles O56: a group of message type `0x2` for the channel voice variants, of `0x1` for the system ones. -/
theorem packUmpOneWord : Obligations.PackUmpOneWord := by
  intro s protocol a b v ch g packs channel system lsb msb
  have voice {e : Event} {k : U4} {d0 d1 : Byte} (h : packUmp protocol e = .ok (cv1Group g k ch d0 d1)) :
      packs e (channel k d0 d1) := exec_packUmp_of_ok (h.trans (by rw [cv1Group_eq])) s
  have sys {e : Event} {st d0 d1 : Byte} (h : packUmp protocol e = .ok (sys1Group g st d0 d1)) :
      packs e (system st d0 d1) := exec_packUmp_of_ok (h.trans (by rw [sys1Group_eq])) s
  exact ⟨voice rfl, voice rfl, voice rfl, voice rfl, voice rfl, voice rfl, voice rfl, sys rfl, sys rfl, sys rfl, sys rfl,
    sys rfl, sys rfl, sys rfl, sys rfl, sys rfl, sys rfl⟩

/-! ### `PACK.UMP` of the MIDI 2.0 variants (R289 to R291) -/

theorem cv2Group_p2_0 (g status ch : U4) (b2 b3 : Byte) (w1 : Word) :
    cv2Group .p2_0 g status ch b2 b3 w1 = .ok [[0x4#4 ++ g ++ status ++ ch ++ b2 ++ b3, w1]] := by
  rw [cv2Group, pkWord_pkNib_pkNib]

/-- Three reserved bytes are one field of 24 zero bits (R289). -/
theorem pkWord_zero (b : Byte) : pkWord b 0x00#8 0x00#8 0x00#8 = b ++ 0x000000#24 := by
  rw [pkWord, BitVec.append_assoc, BitVec.append_assoc]
  rfl

/-- A MIDI 2.0 variant packs to no group under `P1_0` (R291). -/
theorem packUmp_p1_0_of_isMidi2 {e : Event} (h : e.isMidi2 = true) : packUmp .p1_0 e = .error .noProtocol1Form := by
  cases e <;> cases h
  case m2ProgramChange program bank ch g => cases bank <;> rfl
  all_goals rfl

/-- Settles O58: a group of message type `0x4` for each status; only the word without a bank and the byte of the flags have to be rewritten into
the table's fields. -/
theorem packUmpMidi2 : Obligations.PackUmpMidi2 := by
  intro s a b c x value vel attr ch g detach reset packs bit
  have voice {e : Event} {status : U4} {b2 b3 : Byte} {w1 : Word}
      (h : packUmp .p2_0 e = cv2Group .p2_0 g status ch b2 b3 w1) : packs e status b2 b3 w1 :=
    exec_packUmp_of_ok (h.trans (cv2Group_p2_0 ..)) s
  have noBank : packUmp .p2_0 (.m2ProgramChange a none ch g) =
      cv2Group .p2_0 g 0xC#4 ch 0x00#8 0x00#8 (byteOf7 a ++ 0x000000#24) := by
    rw [← pkWord_zero]
    rfl
  have flags : managementFlags detach reset = 0#6 ++ bit detach ++ bit reset := by cases detach <;> cases reset <;> rfl
  exact ⟨voice rfl, voice rfl, voice rfl, voice rfl, voice rfl, voice rfl, voice rfl, voice rfl, voice rfl, voice rfl, voice rfl,
    voice rfl, voice noBank, voice rfl, voice rfl, flags ▸ voice rfl,
    fun e he => exec_packUmp_of_error (packUmp_p1_0_of_isMidi2 he) s⟩

/-! ### `PACK.UMP` of a SysEx7 (R288) -/

theorem sx7Segment_eq (g status : U4) (q : List U7) :
    sx7Segment g status q =
      [0x3#4 ++ g ++ status ++ BitVec.ofNat 4 q.length ++ byteOf7 (q.getD 0 0#7) ++ byteOf7 (q.getD 1 0#7),
        byteOf7 (q.getD 2 0#7) ++ byteOf7 (q.getD 3 0#7) ++ byteOf7 (q.getD 4 0#7) ++ byteOf7 (q.getD 5 0#7)] := by
  rw [sx7Segment, pkWord_pkNib_pkNib, pkWord]

theorem sx7Groups_short (g : U4) {payload : List U7} (h : payload.length ≤ 6) :
    sx7Groups g payload = [sx7Segment g 0x0#4 payload] := by
  rw [sx7Groups, if_pos h]

theorem sx7Groups_long (g : U4) {payload first : List U7} {rest : List (List U7)} (h : 6 < payload.length)
    (hchunks : chunks6 payload = first :: rest) :
    sx7Groups g payload = sx7Segment g 0x1#4 first :: sx7Following g rest := by
  rw [sx7Groups, if_neg h.not_ge, hchunks]

/-- The chunks of a payload cut into pieces of 6 bytes, but for the last, are the pieces. -/
theorem chunks6_flatten (full : List (List U7)) {last : List U7} (hfull : ∀ c ∈ full, c.length = 6) (hlo : 1 ≤ last.length)
    (hhi : last.length ≤ 6) : chunks6 (full.flatten ++ last) = full ++ [last] := by
  induction full with
  | nil => exact chunks6_short last hlo hhi
  | cons c full ih =>
    obtain ⟨hc, hfull⟩ := List.forall_mem_cons.mp hfull
    rw [List.flatten_cons, List.append_assoc, chunks6_append c _ hc, ih hfull, List.cons_append]

theorem sx7Following_append (g : U4) (middle : List (List U7)) (last : List U7) :
    sx7Following g (middle ++ [last]) = middle.map (sx7Segment g 0x2#4) ++ [sx7Segment g 0x3#4 last] := by
  induction middle with
  | nil => rfl
  | cons c middle ih =>
    rw [List.cons_append, sx7Following, ih, List.map_cons, List.cons_append]
    exact List.append_ne_nil_of_right_ne_nil _ (List.cons_ne_nil _ _)

theorem exec_packUmp_sysEx7 {m : Mfr} {d : List U7} {g : U4} {groups : List (List Word)}
    (h : sx7Groups g (mfrBytes m ++ d) = groups) (protocol : Protocol) (s : State) :
    exec (.packUmp (.sysEx7 m d g) protocol) s = .next (s.reply (.groups groups)) := by
  rw [← h]
  rfl

/-- Settles O57: the group of a short payload, and the groups of the chunks that a cut of a longer one gives. -/
theorem packUmpSysEx : Obligations.PackUmpSysEx := by
  intro s protocol m d g byteAt seg packs
  have hseg (status : U4) : seg status = sx7Segment g status := funext fun q => (sx7Segment_eq g status q).symm
  simp only [hseg]
  refine ⟨fun hshort => exec_packUmp_sysEx7 (sx7Groups_short g hshort) protocol s,
    fun first last middle hcut hfirst hmiddle hlo hhi => exec_packUmp_sysEx7 ?_ protocol s⟩
  have hlong : 6 < (mfrBytes m ++ d).length := by
    rw [hcut, List.length_append, List.length_append, hfirst]
    omega
  have hchunks : chunks6 (mfrBytes m ++ d) = first :: (middle ++ [last]) := by
    rw [hcut, List.append_assoc, chunks6_append first _ hfirst, chunks6_flatten middle hmiddle hlo hhi]
  rw [sx7Groups_long g hlong hchunks, sx7Following_append]
  rfl

end Sys2Proof.Proofs
end

section
/-! PROOFS. The round trip through bytes (R292): a complete message, a single byte and a SysEx frame, each parsed by a fresh
parser. -/

namespace Sys2Proof.Proofs

open Sys2Proof.Machine

/-- A fresh parser takes a packet of these bytes to the one Event and is fresh again but for `RS`, `CUR` and `OUT`. -/
def ParsesTo (params : Params) (noz : Bool) (bytes : List Byte) (e : Event) : Prop :=
  ∃ rs cur, m1Packet params bytes (Parser.fresh noz) = { Parser.fresh noz with rs := rs, cur := cur, out := [e] }

theorem m1Packet_fresh (params : Params) (noz : Bool) (bytes : List Byte) :
    m1Packet params bytes (Parser.fresh noz) = endPacket (m1Bytes params bytes (Parser.fresh noz)) := by
  have hstart : startPacket params.rsScope (Parser.fresh noz) = Parser.fresh noz := by cases params.rsScope <;> rfl
  rw [m1Packet, hstart]

section
variable {params : Params} {noz : Bool}

/-! ### Messages with data bytes -/

theorem m1Byte_byteOf7_pending {st : Byte} {d : List U7} {p : Parser} (hm : p.mode = .idle) (hpend : p.pend = some ⟨st, d⟩)
    (v : U7) : m1Byte params (byteOf7 v) p = advance (addData ⟨st, d⟩ v p) := by
  have hv : (byteOf7 v).toNat < 0x80 := by rw [byteOf7_toNat]; exact v.isLt
  rw [m1Byte_data params p hv, low7_byteOf7, dataEffect_idle hm, idleData_joins (.inl hpend)]

/-- The data bytes that complete the pending message emit its Event. -/
theorem m1Bytes_complete {st : Byte} {v : U7} {d rest : List U7} {p : Parser} (hm : p.mode = .idle)
    (hpend : p.pend = some ⟨st, d⟩) (hneed : need st = some (d.length + 1 + rest.length)) :
    m1Bytes params ((v :: rest).map byteOf7) p =
      { p with
        pend := none, cur := p.cur + 1 + rest.length,
        out := p.out ++ (messageEvent p.noz st (d ++ v :: rest)).toList } := by
  induction rest generalizing v d p with
  | nil =>
    rw [List.map_cons, m1Bytes, m1Byte_byteOf7_pending hm hpend, addData_last hneed]
    rfl
  | cons w rest ih =>
    have hv : m1Byte params (byteOf7 v) p = { p with pend := some ⟨st, d ++ [v]⟩, cur := p.cur + 1 } := by
      rw [m1Byte_byteOf7_pending hm hpend, addData_short hneed (by simp)]
      rfl
    have hneed' : need st = some ((d ++ [v]).length + 1 + rest.length) := by simp [hneed]; omega
    rw [List.map_cons, m1Bytes, hv, ih (p := { p with pend := some ⟨st, d ++ [v]⟩, cur := p.cur + 1 }) hm rfl hneed']
    simp; omega

/-- The status byte opens a message, whatever becomes of `RS`. -/
def Opens (params : Params) (st : Byte) : Prop :=
  ∀ p : Parser, p.mode = .idle → ∃ rs, m1Byte params st p = { p with rs := rs, pend := some ⟨st, []⟩, cur := p.cur + 1 }

theorem opens_channel {kind n : U4} (hkind : 0x8 ≤ kind.toNat ∧ kind.toNat ≤ 0xE) : Opens params (pkNib kind n) := by
  intro p hm
  have hn := n.isLt
  have hb := pkNib_toNat kind n
  rw [m1Byte_status params p (by omega) (by omega), statusByte_idle _ hm, idleByte_channel params p (by omega) (by omega)]
  exact ⟨_, rfl⟩

theorem opens_system {st : Byte} (hst : st = 0xF1#8 ∨ st = 0xF2#8 ∨ st = 0xF3#8) : Opens params st := by
  intro p hm
  have hrange : 0x80 ≤ st.toNat ∧ st.toNat ≤ 0xF6 := by rcases hst with rfl | rfl | rfl <;> decide
  rw [m1Byte_status params p hrange.1 hrange.2, statusByte_idle _ hm]
  rcases hst with rfl | rfl | rfl <;> exact ⟨_, rfl⟩

theorem parsesTo_message {st : Byte} {v : U7} {rest : List U7} {e : Event} (hopens : Opens params st)
    (hneed : need st = some (1 + rest.length)) (hevent : messageEvent noz st (v :: rest) = some e) :
    ParsesTo params noz (st :: (v :: rest).map byteOf7) e := by
  obtain ⟨rs, hst⟩ := hopens (Parser.fresh noz) rfl
  refine ⟨rs, 1 + 1 + rest.length, ?_⟩
  rw [m1Packet_fresh, m1Bytes, hst, m1Bytes_complete rfl rfl (by rw [hneed]; simp)]
  simp [endPacket, Parser.fresh, hevent]

/-! ### Single bytes and SysEx frames -/

theorem parsesTo_byte {b : Byte} {e : Event} (h : m1Byte params b (Parser.fresh noz) = advance (emit e (Parser.fresh noz))) :
    ParsesTo params noz [b] e :=
  ⟨none, 1, by rw [m1Packet_fresh, m1Bytes, h]; rfl⟩

theorem parsesTo_tuneRequest : ParsesTo params noz [0xF6#8] (.tuneRequest 0#4) :=
  parsesTo_byte (m1Byte_status params _ (by decide) (by decide))

theorem parsesTo_realTime {b : Byte} {e : Event} (hb : 0xF8 ≤ b.toNat)
    (he : realTimeByte b (Parser.fresh noz) = emit e (Parser.fresh noz)) : ParsesTo params noz [b] e :=
  parsesTo_byte (by rw [m1Byte_realTime params _ hb, he])

/-- A whole frame in `Idle` emits the Events of its payload. -/
theorem m1Bytes_frame {p : Parser} (hm : p.mode = .idle) (l : List U7) :
    m1Bytes params ([0xF0#8] ++ l.map byteOf7 ++ [0xF7#8]) p =
      { p with
        mode := .idle, sxbuf := [], rs := none, pend := none, cur := p.cur + 1 + l.length + 1,
        out := p.out ++ bufferEvents l } :=
  calc m1Bytes params ([0xF0#8] ++ l.map byteOf7 ++ [0xF7#8]) p
      = m1Byte params 0xF7#8 (m1Bytes params (l.map byteOf7) (m1Byte params 0xF0#8 p)) := by
        rw [m1Bytes_append, m1Bytes_append]
        rfl
    _ = advance (eoxEffect { openSysEx p with sxbuf := l, cur := p.cur + 1 + l.length }) := by
        rw [m1Byte_sox hm, m1Bytes_collect params l _ rfl, m1Byte_eox]
        rfl
    _ = _ := by
        rw [eoxEffect_collecting rfl, sxFinish_eq_bufferEvents]
        rfl

theorem parsesTo_sysEx7 {m : Mfr} (hm : m ≠ .oneByte 0#7) (d : List U7) :
    ParsesTo params noz (sx7Canon m d) (.sysEx7 m d 0#4) := by
  refine ⟨none, 0 + 1 + (mfrBytes m ++ d).length + 1, ?_⟩
  rw [m1Packet_fresh, sx7Canon_eq, m1Bytes_frame rfl, bufferEvents_of_mfrParse (mfrParse_mfrBytes m d hm)]
  rfl

end

/-! ### Every Event of the byte form -/

theorem noteOnEvent_of_noz {noz : Bool} {n : U4} {note velocity : U7} (h : velocity = 0#7 → noz = false) :
    noteOnEvent noz n note velocity = .noteOn note velocity n 0#4 :=
  if_neg fun ⟨hvelocity, hnoz⟩ => by simp [h hvelocity] at hnoz

/-- The law of R292: channel and system messages by their status byte, single bytes, and the SysEx. -/
theorem packM1_parsesTo (params : Params) {noz : Bool} {e : Event} (hmidi1 : e.isMidi2 = false) (hgroup : e.group = 0#4)
    (hnoz : ∀ note ch g, e = .noteOn note 0#7 ch g → noz = false) (hmfr : ∀ d g, e ≠ .sysEx7 (.oneByte 0#7) d g) :
    ∃ bytes, packM1 e = .ok bytes ∧ ParsesTo params noz bytes e := by
  have hneed := need_channel
  simp only [forall_and] at hneed
  obtain ⟨hOff, hOn, hPoly, hControl, hProgram, hPressure, hBend⟩ := hneed
  cases e <;> cases hmidi1 <;> obtain rfl := hgroup
  case noteOff a b ch => exact ⟨_, rfl, parsesTo_message (opens_channel (by decide)) (hOff ch) (messageEvent_noteOff ..)⟩
  case noteOn a b ch =>
    have hevent : noteOnEvent noz ch a b = .noteOn a b ch 0#4 := noteOnEvent_of_noz fun hb => hnoz a ch 0#4 (by rw [hb])
    exact ⟨_, rfl, parsesTo_message (opens_channel (by decide)) (hOn ch) (by rw [messageEvent_noteOn, hevent])⟩
  case notePressure a b ch =>
    exact ⟨_, rfl, parsesTo_message (opens_channel (by decide)) (hPoly ch) (messageEvent_polyPressure ..)⟩
  case cc a b ch => exact ⟨_, rfl, parsesTo_message (opens_channel (by decide)) (hControl ch) (messageEvent_controlChange ..)⟩
  case programChange a ch =>
    exact ⟨_, rfl, parsesTo_message (opens_channel (by decide)) (hProgram ch) (messageEvent_programChange ..)⟩
  case pressure a ch =>
    exact ⟨_, rfl, parsesTo_message (opens_channel (by decide)) (hPressure ch) (messageEvent_channelPressure ..)⟩
  case pitchBend v ch =>
    exact ⟨_, rfl, parsesTo_message (opens_channel (by decide)) (hBend ch)
      (by rw [messageEvent_pitchBend, pkU14_msb14_lsb14])⟩
  case timecodeQuarterFrame a => exact ⟨_, rfl, parsesTo_message (opens_system (.inl rfl)) rfl rfl⟩
  case songPositionPointer v =>
    exact ⟨_, rfl, parsesTo_message (opens_system (.inr (.inl rfl))) rfl
      (congrArg (fun w => some (Event.songPositionPointer w 0#4)) (pkU14_msb14_lsb14 v))⟩
  case songSelect a => exact ⟨_, rfl, parsesTo_message (opens_system (.inr (.inr rfl))) rfl rfl⟩
  case tuneRequest => exact ⟨_, rfl, parsesTo_tuneRequest⟩
  case sysEx7 m d => exact ⟨_, rfl, parsesTo_sysEx7 (fun hm => hmfr d 0#4 (by rw [hm])) d⟩
  all_goals exact ⟨_, rfl, parsesTo_realTime (by decide) rfl⟩

/-- Settles O59: the bytes of each variant are parsed back. -/
theorem roundTripThroughBytes : Obligations.RoundTripThroughBytes := by
  intro params noz e hmidi1 hgroup hnoz hmfr
  obtain ⟨bytes, hpack, rs, cur, hparse⟩ := packM1_parsesTo params hmidi1 hgroup hnoz hmfr
  exact ⟨bytes, rs, cur, exec_packM1_of_ok hpack, hparse⟩

end Sys2Proof.Proofs
end

section
/-! PROOFS. The round trip through words (R293): the row that each packed first word decodes to, and the Event it answers on its own
group. -/

namespace Sys2Proof.Proofs

open Sys2Proof.Machine

/-- `e` packs to one group, whose first word decodes to a row that answers `e` on that group. -/
def RoundTrips (e : Event) : Prop :=
  ∃ w ws, packUmp .p2_0 e = .ok [w :: ws] ∧
    ∀ t : State, t.phase = .group (w :: ws) → exec (decode (.word w)) t = decoded t (some e)

/-! ### The row of a packed first word -/

section
variable (g k ch : U4) (b1 b2 b3 : Byte)

theorem decode_sys1Word : decode (.word (pkWord (pkNib 0x1#4 g) b1 b2 b3)) = decodeSys1 g b1 b2 b3 := by
  simp [decode, decodeWord]

theorem decode_cv1Word : decode (.word (pkWord (pkNib 0x2#4 g) (pkNib k ch) b2 b3)) = decodeCv1 g k ch b2 b3 := by
  simp [decode, decodeWord]

theorem decode_sx7Word : decode (.word (pkWord (pkNib 0x3#4 g) (pkNib k ch) b2 b3)) = decodeSx7 g k ch b2 b3 := by
  simp [decode, decodeWord]

theorem decode_cv2Word : decode (.word (pkWord (pkNib 0x4#4 g) (pkNib k ch) b2 b3)) = decodeCv2 g k ch b2 b3 := by
  simp [decode, decodeWord]

end

/-! ### The Events of one word and of two -/

section
variable {e : Event} {g k ch : U4} {b1 b2 b3 : Byte} {w1 : Word}

theorem roundTrips_sys1 (hpack : packUmp .p2_0 e = .ok (sys1Group g b1 b2 b3))
    (hexec : ∀ t w, t.phase = .group [w] → exec (decodeSys1 g b1 b2 b3) t = decoded t (some e)) : RoundTrips e :=
  ⟨_, [], hpack, fun t ht => by rw [decode_sys1Word, hexec t _ ht]⟩

theorem roundTrips_cv1 (hpack : packUmp .p2_0 e = .ok (cv1Group g k ch b2 b3))
    (hexec : ∀ t w, t.phase = .group [w] → exec (decodeCv1 g k ch b2 b3) t = decoded t (some e)) : RoundTrips e :=
  ⟨_, [], hpack, fun t ht => by rw [decode_cv1Word, hexec t _ ht]⟩

theorem roundTrips_cv2 (hpack : packUmp .p2_0 e = cv2Group .p2_0 g k ch b2 b3 w1)
    (hexec : ∀ t w0, t.phase = .group [w0, w1] → exec (decodeCv2 g k ch b2 b3) t = decoded t (some e)) : RoundTrips e :=
  ⟨_, [w1], hpack, fun t ht => by rw [decode_cv2Word, hexec t _ ht]⟩

end

/-! ### SysEx7 -/

/-- The payload positions of a segment begin with its payload. -/
theorem take_sx7Positions {q : List U7} (h : q.length ≤ 6) :
    [byteOf7 (q.getD 0 0#7), byteOf7 (q.getD 1 0#7), byteOf7 (q.getD 2 0#7), byteOf7 (q.getD 3 0#7), byteOf7 (q.getD 4 0#7),
      byteOf7 (q.getD 5 0#7)].take q.length = q.map byteOf7 := by
  match q, h with
  | [], _ => rfl
  | [_], _ => rfl
  | [_, _], _ => rfl
  | [_, _, _], _ => rfl
  | [_, _, _, _], _ => rfl
  | [_, _, _, _, _], _ => rfl
  | [_, _, _, _, _, _], _ => rfl

theorem roundTrips_sysEx7 {m : Mfr} (hm : m ≠ .oneByte 0#7) {d : List U7} (hshort : (mfrBytes m ++ d).length ≤ 6) (g : U4) :
    RoundTrips (.sysEx7 m d g) := by
  have hcount : (BitVec.ofNat 4 (mfrBytes m ++ d).length).toNat = (mfrBytes m ++ d).length := by
    rw [BitVec.toNat_ofNat, Nat.mod_eq_of_lt (by omega)]
  refine ⟨_, _, congrArg Except.ok (sx7Groups_short g hshort), fun t ht => ?_⟩
  rw [decode_sx7Word]
  obtain ⟨-, -, hcomplete⟩ := umpSysExComplete t _ [] g _ _ _ _ _ _ _ ht
  refine hcomplete m d (by rw [hcount]; exact hshort) hm ?_
  rw [hcount, take_sx7Positions hshort]
  rfl

theorem chunks6_ne_nil {l : List U7} (h : l ≠ []) : chunks6 l ≠ [] := by
  unfold chunks6
  split
  · exact List.cons_ne_nil _ _
  · exact absurd rfl h
  · exact List.cons_ne_nil _ _

theorem sx7Following_ne_nil (g : U4) {chunks : List (List U7)} (h : chunks ≠ []) : sx7Following g chunks ≠ [] := by
  match chunks, h with
  | [c], _ => exact List.cons_ne_nil _ _
  | c :: c' :: cs, _ => exact List.cons_ne_nil _ _

/-- A payload that one group cannot hold packs to a start group and at least one more. -/
theorem length_le_six_of_sx7Groups {g : U4} {payload : List U7} {grp : List Word} (h : sx7Groups g payload = [grp]) :
    payload.length ≤ 6 := by
  by_contra hlong
  have hchunks : chunks6 payload = payload.take 6 :: chunks6 (payload.drop 6) := by
    conv_lhs => rw [← List.take_append_drop 6 payload]
    exact chunks6_append _ _ (by rw [List.length_take]; omega)
  have hrest : payload.drop 6 ≠ [] := by rw [Ne, List.drop_eq_nil_iff]; exact hlong
  rw [sx7Groups_long g (not_le.mp hlong) hchunks] at h
  exact sx7Following_ne_nil g (chunks6_ne_nil hrest) (List.cons.inj h).2

/-! ### Every Event -/

theorem managementFlags_getLsbD (detach reset : Bool) :
    (managementFlags detach reset).getLsbD 1 = detach ∧ (managementFlags detach reset).getLsbD 0 = reset := by
  revert detach reset
  decide

/-- The law of R293: the Events of one word and of two by the 7-bit fields that their rows read, and a short SysEx7. -/
theorem roundTrips (e : Event)
    (hsysEx : ∀ m d g, e = .sysEx7 m d g → m ≠ .oneByte 0#7 ∧ (mfrBytes m ++ d).length ≤ 6) : RoundTrips e := by
  cases e
  case noteOff a b ch g | noteOn a b ch g | notePressure a b ch g | cc a b ch g =>
    exact roundTrips_cv1 rfl fun _ _ ht => umpRow_event ht le_rfl (field7_field7 a b _)
  case programChange a ch g | pressure a ch g =>
    exact roundTrips_cv1 rfl fun _ _ ht => umpRow_event ht le_rfl (field7_byteOf7 a _)
  case pitchBend v ch g =>
    exact roundTrips_cv1 rfl fun _ _ ht => umpRow_event ht le_rfl (by rw [field7_field7, pkU14_msb14_lsb14])
  case timecodeQuarterFrame a g | songSelect a g =>
    exact roundTrips_sys1 rfl fun _ _ ht => umpRow_event ht le_rfl (field7_byteOf7 a _)
  case songPositionPointer v g =>
    exact roundTrips_sys1 rfl fun _ _ ht => umpRow_event ht le_rfl (by rw [field7_field7, pkU14_msb14_lsb14])
  case tuneRequest g | timingClock g | start g | continue_ g | stop g | activeSensing g | systemReset g =>
    exact roundTrips_sys1 rfl fun _ _ ht => umpRow_event ht le_rfl rfl
  case m2RegisteredPerNoteController a x w ch g | m2AssignablePerNoteController a x w ch g | m2PerNotePitchBend a w ch g |
      m2NotePressure a w ch g | m2CC a w ch g =>
    exact roundTrips_cv2 rfl fun _ _ ht => umpRow_event ht le_rfl (field7_byteOf7 a _)
  case m2RegisteredController a b w ch g | m2AssignableController a b w ch g | m2RelativeRegisteredController a b w ch g |
      m2RelativeAssignableController a b w ch g =>
    exact roundTrips_cv2 rfl fun _ _ ht => umpRow_event ht le_rfl (field7_field7 a b _)
  case m2Pressure w ch g | m2PitchBend w ch g =>
    exact roundTrips_cv2 rfl fun _ _ ht => umpRow_event ht le_rfl rfl
  case sysEx7 m d g =>
    obtain ⟨hm, hshort⟩ := hsysEx m d g rfl
    exact roundTrips_sysEx7 hm hshort g
  case m2NoteOff a vel x attr ch g =>
    refine roundTrips_cv2 rfl fun t w0 ht => ?_
    obtain ⟨hnotes, -⟩ := umpMidi2Notes t w0 _ [] g ch x x ht
    exact (hnotes a vel attr rfl).1
  case m2NoteOn a vel x attr ch g =>
    refine roundTrips_cv2 rfl fun t w0 ht => ?_
    obtain ⟨hnotes, -⟩ := umpMidi2Notes t w0 _ [] g ch x x ht
    exact (hnotes a vel attr rfl).2
  case m2ProgramChange a bank ch g =>
    cases bank with
    | none =>
      refine roundTrips_cv2 rfl fun t w0 ht => ?_
      obtain ⟨-, hnoBank, -⟩ := umpMidi2ProgramChange t w0 _ [] g ch _ _ _ _ _ _ ht rfl
      exact hnoBank a rfl rfl
    | some bank =>
      refine roundTrips_cv2 rfl fun t w0 ht => ?_
      obtain ⟨hbank, -⟩ := umpMidi2ProgramChange t w0 _ [] g ch _ _ _ _ _ _ ht rfl
      exact hbank a bank.1 bank.2 rfl rfl rfl rfl
  case m2PerNoteManagement a detach reset ch g =>
    obtain ⟨hdetach, hreset⟩ := managementFlags_getLsbD detach reset
    exact roundTrips_cv2 rfl fun _ _ ht => umpRow_event ht le_rfl (by rw [field7_byteOf7, hdetach, hreset])

theorem packUmp_ok_of_exec {e : Event} {protocol : Protocol} {groups : List (List Word)} {s : State}
    (h : exec (.packUmp e protocol) s = .next (s.reply (.groups groups))) : packUmp protocol e = .ok groups := by
  cases hpack : packUmp protocol e with
  | ok groups' =>
    rw [exec_packUmp_of_ok hpack] at h
    rw [Reply.groups.inj (reply_injective s (Host.Outcome.next.inj h))]
  | error r => cases (exec_packUmp_of_error hpack s).symm.trans h

/-- Settles O60: an Event that packs to one group is no long SysEx7, and every Event but a long SysEx7 packs to one group. -/
theorem roundTripThroughWords : Obligations.RoundTripThroughWords := by
  refine ⟨fun s t e grp hexec hmfr ht => ?_, fun s e hshort => ?_⟩
  · have hpack := packUmp_ok_of_exec hexec
    obtain ⟨w, ws, hpack', hrow⟩ := roundTrips e fun m d g he => by
      subst he
      exact ⟨fun hm => hmfr d g (by rw [hm]), length_le_six_of_sx7Groups (Except.ok.inj hpack)⟩
    obtain rfl : grp = w :: ws := by simpa [hpack] using hpack'
    exact ⟨w, ws, rfl, step_word ht, hrow t ht⟩
  · by_cases hmfr : ∃ d g, e = .sysEx7 (.oneByte 0#7) d g
    · obtain ⟨d, g, rfl⟩ := hmfr
      exact ⟨_, exec_packUmp_sysEx7 (sx7Groups_short g (hshort _ d g rfl)) .p2_0 s⟩
    · obtain ⟨w, ws, hpack, -⟩ := roundTrips e fun m d g he =>
        ⟨fun hm => hmfr ⟨d, g, by rw [he, hm]⟩, hshort m d g he⟩
      exact ⟨_, exec_packUmp_of_ok hpack s⟩

end Sys2Proof.Proofs
end

section
/-! PROOFS. What a step does when it does not answer next (R324, R331, R353): the outcomes of an operation, the refusals of the rows, and the
faults of a step from a state that meets the invariant. -/

namespace Sys2Proof.Proofs

open Sys2Proof.Machine

/-! ### Which Events have a packed form (R284, R291) -/

/-- A MIDI 2.0 variant has no bytes (R284). -/
theorem packM1_of_isMidi2 {e : Event} (h : e.isMidi2 = true) : packM1 e = .error .noMidi1Form := by
  cases e <;> cases h <;> rfl

theorem exists_packM1 {e : Event} (h : e.isMidi2 = false) : ∃ bytes, packM1 e = .ok bytes := by
  cases e <;> cases h <;> exact ⟨_, rfl⟩

/-- Only the MIDI 2.0 variants depend on the protocol. -/
theorem exists_packUmp_of_not_isMidi2 {e : Event} (h : e.isMidi2 = false) (protocol : Protocol) :
    ∃ groups, packUmp protocol e = .ok groups := by
  cases e <;> cases h <;> exact ⟨_, rfl⟩

theorem exists_packUmp_p2_0 (e : Event) : ∃ groups, packUmp .p2_0 e = .ok groups := by
  cases e
  case m2ProgramChange program bank ch g => cases bank <;> exact ⟨_, rfl⟩
  all_goals exact ⟨_, rfl⟩

theorem exec_packM1_of_error {e : Event} {r : Refusal} (h : packM1 e = .error r) (s : State) :
    exec (.packM1 e) s = .refused r := by
  rw [← returnOrRefuse_error s .bytes, ← h]
  rfl

/-! ### The outcomes of an operation -/

/-- All that an operation `i` can answer in `s`, with what each fault and each refusal requires. -/
inductive OperationOutcome (s : State) : Instr → Result → Prop
  | next {i : Instr} (t : State) : OperationOutcome s i (.next t)
  | inProgress {i : Instr} (hs : s.phase ≠ .quiescent) : OperationOutcome s i (.fault .operationInProgress)
  | noSuchParser {i : Instr} {h : Nat} (hname : i.names = some h) (hp : s.parser? h = none) :
    OperationOutcome s i (.fault .noSuchParser)
  | noMidi1Form {e : Event} (he : e.isMidi2 = true) : OperationOutcome s (.packM1 e) (.refused .noMidi1Form)
  | noProtocol1Form {e : Event} (he : e.isMidi2 = true) : OperationOutcome s (.packUmp e .p1_0) (.refused .noProtocol1Form)
  | reserved : OperationOutcome s .opReservedF (.refused .reservedOperation)

section
variable {s : State} {i : Instr}

theorem operationOutcome_whenQuiescent {k : Result} (hk : OperationOutcome s i k) :
    OperationOutcome s i (whenQuiescent s k) := by
  by_cases hs : s.phase = .quiescent
  · rwa [whenQuiescent_quiescent hs]
  · rw [whenQuiescent_busy hs]
    exact .inProgress hs

theorem operationOutcome_withParser {h : Nat} (hname : i.names = some h) (f : Parser → State) :
    OperationOutcome s i (withParser s h fun p => .next (f p)) := by
  cases hp : s.parser? h with
  | none =>
    rw [withParser_none hp]
    exact .noSuchParser hname hp
  | some p =>
    rw [withParser_some hp]
    exact .next (f p)

theorem operationOutcome_returnOrRaise {α : Type} (f : α → Reply) (x : Except CodecError α) :
    OperationOutcome s i (returnOrRaise s f x) := by
  cases x with
  | ok a => exact .next _
  | error e => exact .next _

theorem operationOutcome_packM1 (e : Event) : OperationOutcome s (.packM1 e) (exec (.packM1 e) s) := by
  cases he : e.isMidi2 with
  | true =>
    rw [exec_packM1_of_error (packM1_of_isMidi2 he)]
    exact .noMidi1Form he
  | false =>
    obtain ⟨bytes, hpack⟩ := exists_packM1 he
    rw [exec_packM1_of_ok hpack]
    exact .next _

theorem operationOutcome_packUmp (e : Event) (protocol : Protocol) :
    OperationOutcome s (.packUmp e protocol) (exec (.packUmp e protocol) s) := by
  have packs {protocol : Protocol} (h : ∃ groups, packUmp protocol e = .ok groups) :
      OperationOutcome s (.packUmp e protocol) (exec (.packUmp e protocol) s) := by
    obtain ⟨groups, hpack⟩ := h
    rw [exec_packUmp_of_ok hpack]
    exact .next _
  cases he : e.isMidi2 with
  | false => exact packs (exists_packUmp_of_not_isMidi2 he protocol)
  | true =>
    cases protocol with
    | p2_0 => exact packs (exists_packUmp_p2_0 e)
    | p1_0 =>
      rw [exec_packUmp_of_error (packUmp_p1_0_of_isMidi2 he)]
      exact .noProtocol1Form he

theorem operationOutcome (hop : i.isOperation = true) : OperationOutcome s i (exec i s) := by
  cases i <;> cases hop
  case m1Reset target noz =>
    refine operationOutcome_whenQuiescent ?_
    cases target with
    | none => exact .next _
    | some h => exact operationOutcome_withParser rfl _
  case cfgWrite h v => exact operationOutcome_whenQuiescent (operationOutcome_withParser rfl _)
  case m1Abandon h => exact operationOutcome_whenQuiescent (operationOutcome_withParser rfl _)
  case m1Packet h bytes ts => exact operationOutcome_whenQuiescent (operationOutcome_withParser rfl _)
  case m2Decode words ts protocol =>
    refine operationOutcome_whenQuiescent ?_
    cases words with
    | nil => exact .next _
    | cons w ws => exact .next _
  case packM1 e => exact operationOutcome_packM1 e
  case packUmp e protocol => exact operationOutcome_packUmp e protocol
  case opReservedF => exact .reserved
  case sx7FromBytes => exact operationOutcome_returnOrRaise _ _
  case bp32Enc => exact operationOutcome_returnOrRaise _ _
  case u4Check => exact operationOutcome_returnOrRaise _ _
  case u7Check => exact operationOutcome_returnOrRaise _ _
  case evMake => exact operationOutcome_returnOrRaise _ _
  all_goals exact .next _

/-- Between operations an operation faults only on a parser that does not exist (R353). -/
theorem operation_fault {f : Fault} (hop : i.isOperation = true) (hs : s.phase = .quiescent) (e : exec i s = .fault f) :
    f = .noSuchParser ∧ ∃ h, i.names = some h ∧ s.parser? h = none := by
  have houtcome : OperationOutcome s i (.fault f) := e ▸ operationOutcome hop
  cases houtcome with
  | inProgress hbusy => exact absurd hs hbusy
  | noSuchParser hname hp => exact ⟨rfl, _, hname, hp⟩

end

/-! ### The rows of a packet -/

section
variable {s : State}

theorem byteRow_ne_refused (f : Params → Parser → Parser) (r : Refusal) : byteRow s f ≠ .refused r := by
  unfold byteRow
  cases s.phase with
  | quiescent => exact nofun
  | group ws => exact nofun
  | packet h pkt =>
    cases hp : s.parser? h with
    | none => simp [withParser_none hp]
    | some p => simp [withParser_some hp]

theorem finishDecode_ne_fault (r : UmpResult) (f : Fault) : finishDecode s r ≠ .fault f := by
  cases r <;> exact nofun

/-- A word row refuses only in an open packet with the words it needs, and then by its rule. -/
theorem umpRow_refused {n : Nat} {read : List Word → UmpResult} {r : Refusal} (e : umpRow s n read = .refused r) :
    ∃ ws, s.phase = .group ws ∧ n ≤ ws.length ∧ read ws = .refused r := by
  cases hs : s.phase with
  | quiescent => simp [umpRow, hs] at e
  | packet h pkt => simp [umpRow, hs] at e
  | group ws =>
    rcases Nat.lt_or_ge ws.length n with hshort | hlen
    · cases (umpRow_short hs hshort).symm.trans e
    · rw [umpRow_long hs hlen] at e
      cases hread : read ws with
      | event ev => simp [hread] at e
      | skip reason => simp [hread] at e
      | refused q => exact ⟨ws, rfl, hlen, by simpa [hread] using e⟩

end

/-! ### The refusals -/

/-- Settles O30: of the byte rows none refuses, of the word rows only `D128` does, and an operation refuses by its outcomes. -/
theorem refusalsAreTheFour : Obligations.RefusalsAreTheFour := by
  refine fun s => ⟨fun g rest ws hs hlen => umpRow_long hs hlen, fun g rest ws hs hshort => umpRow_short hs hshort,
    fun e he => exec_packM1_of_error (packM1_of_isMidi2 he) s,
    fun e he => exec_packUmp_of_error (packUmp_p1_0_of_isMidi2 he) s, rfl, fun i r e => ?_⟩
  rcases exec_shape i with ⟨f, hbyte⟩ | ⟨n, read, hword, hread⟩ | hop
  · exact absurd ((hbyte s).symm.trans e) (byteRow_ne_refused f r)
  · obtain ⟨ws, hs, hlen, hr⟩ := umpRow_refused ((hword s).symm.trans e)
    rcases hread with hnever | ⟨g, rest, hi, rfl, halways⟩
    · exact absurd hr (hnever ws r)
    · exact .inl ⟨UmpResult.refused.inj (hr.symm.trans (halways ws)), g, rest, ws, hi, hs, hlen⟩
  · have houtcome : OperationOutcome s i (.refused r) := e ▸ operationOutcome hop
    cases houtcome with
    | noMidi1Form he => exact .inr (.inl ⟨rfl, _, rfl, he⟩)
    | noProtocol1Form he => exact .inr (.inr (.inl ⟨rfl, _, rfl, he⟩))
    | reserved => exact .inr (.inr (.inr ⟨rfl, rfl⟩))

/-! ### The faults of a step -/

section
variable {s : State}

/-- A packet in progress has its parser, whose byte row or end answers next. -/
theorem step_ne_fault_of_packet {h : Nat} {pkt : List Byte} (hinv : s.Inv) (hs : s.phase = .packet h pkt) (f : Fault) :
    step s ≠ .fault f := by
  obtain ⟨p, hp, -⟩ := hinv.packet h pkt hs
  cases hb : pkt[p.cur]? with
  | some b =>
    rw [step_byte hs hp hb, byteStepIsM1Byte s h pkt p b hs hp]
    exact nofun
  | none =>
    rw [step_packetEnd hs hp (List.getElem?_eq_none_iff.mp hb)]
    exact nofun

/-- A word group in progress has a first word, whose row ends the operation. -/
theorem step_ne_fault_of_group {ws : List Word} (hinv : s.Inv) (hs : s.phase = .group ws) (f : Fault) :
    step s ≠ .fault f := by
  obtain ⟨w, ws, rfl⟩ := List.exists_cons_of_ne_nil (hinv.group ws hs)
  obtain ⟨n, read, hrow⟩ := decodeWord_umpRow w
  rw [step_word hs, decode, hrow, umpRow_group hs]
  exact finishDecode_ne_fault _ f

end

/-- Settles O29: by the phase; only a quiescent block can fault, on the operation it begins. -/
theorem faultsOnlyWithoutAnInstance : Obligations.FaultsOnlyWithoutAnInstance := by
  intro s f hinv e
  cases hs : s.phase with
  | packet h pkt => exact absurd e (step_ne_fault_of_packet hinv hs f)
  | group ws => exact absurd e (step_ne_fault_of_group hinv hs f)
  | quiescent =>
    cases hr : s.requests with
    | nil => cases (step_wait hs hr).symm.trans e
    | cons r rest =>
      rw [step_operation hs hr] at e
      obtain ⟨hf, h, hname, hp⟩ := operation_fault (s := { s with requests := rest }) (decodeOp_isOperation r) hs e
      exact ⟨hf, rfl, h, ⟨r, rest, hr, hname⟩, hp⟩

end Sys2Proof.Proofs
end

section
/-! PROOFS. The operations on parsers (R350, R353, R355): a parser that is created stands after all the places that exist, and a reset, a write or
an end is answered only between operations and for a parser that exists. -/

namespace Sys2Proof.Proofs

open Sys2Proof.Machine

/-! ### A created parser -/

section
variable (s : State)

/-- The first place after the list names no parser. -/
theorem parser?_length : s.parser? s.parsers.length = none := by
  simp [State.parser?]

theorem parser?_append_self (x : Option Parser) :
    ({ s with parsers := s.parsers ++ [x] } : State).parser? s.parsers.length = x := by
  simp [State.parser?]

/-- Creating a parser leaves every other handle as it was: those before it keep their place, those after it still name none. -/
theorem parser?_append_ne (x : Option Parser) {k : Nat} (hk : k ≠ s.parsers.length) :
    ({ s with parsers := s.parsers ++ [x] } : State).parser? k = s.parser? k := by
  rcases Nat.lt_or_gt_of_ne hk with hlt | hgt
  · simp [State.parser?, List.getElem?_append_left hlt]
  · have hbefore : s.parsers[k]? = none := List.getElem?_eq_none hgt.le
    have hafter : (s.parsers ++ [x])[k]? = none := List.getElem?_eq_none (by simpa using hgt)
    simp [State.parser?, hbefore, hafter]

end

/-! ### The operations by the phase and the parser -/

section
variable {s : State} (hs : s.phase = .quiescent)
include hs

theorem exec_m1Reset_new (noz : Option Bool) :
    exec (.m1Reset none noz) s =
      .next ({ s with parsers := s.parsers ++ [some (Parser.fresh (noz.getD Config.nozReset))] }.reply
        (.parser s.parsers.length)) :=
  whenQuiescent_quiescent hs _

theorem exec_m1Reset_existing {h : Nat} {p : Parser} (hp : s.parser? h = some p) (noz : Option Bool) :
    exec (.m1Reset (some h) noz) s =
      .next ((s.setParser h (some (Parser.fresh (noz.getD Config.nozReset)))).reply (.parser h)) :=
  (whenQuiescent_quiescent hs _).trans (withParser_some hp _)

theorem exec_m1Abandon {h : Nat} {p : Parser} (hp : s.parser? h = some p) :
    exec (.m1Abandon h) s = .next ((s.setParser h none).reply .done) :=
  (whenQuiescent_quiescent hs _).trans (withParser_some hp _)

/-- The common beginning of the operations on a named parser stops where the handle names none (R353). -/
theorem whenQuiescent_withParser_none {h : Nat} (hp : s.parser? h = none) (k : Parser → Result) :
    whenQuiescent s (withParser s h k) = .fault .noSuchParser :=
  (whenQuiescent_quiescent hs _).trans (withParser_none hp k)

end

/-! ### The obligations -/

/-- Settles O21: a new parser takes the first place after the list; an existing one is overwritten in its place. -/
theorem resetMakesAFreshInstance : Obligations.ResetMakesAFreshInstance := by
  intro s noz hs fresh
  have hfresh : Parser.fresh (noz.getD Config.nozReset) = fresh := by cases noz <;> rfl
  constructor
  · refine ⟨_, _, exec_m1Reset_new hs noz, parser?_length s, ?_, fun k hk => ?_, rfl, rfl, rfl, rfl⟩
    · rw [reply_parser?, parser?_append_self, hfresh]
    · rw [reply_parser?, parser?_append_ne s _ hk]
  · intro h p hp
    rw [exec_m1Reset_existing hs hp, hfresh]

/-- Settles O24: the end of a parser empties its place; each operation on a handle begins by reading its parser. -/
theorem abandonEndsTheInstance : Obligations.AbandonEndsTheInstance := by
  refine fun s h hs => ⟨fun p hp => ⟨exec_m1Abandon hs hp, ?_⟩, fun hp => ?_⟩
  · rw [reply_parser?, parser?_setParser_self none hp]
  · have hstops := whenQuiescent_withParser_none hs hp
    exact ⟨fun noz => hstops _, fun v => hstops _, fun bytes ts => hstops _, hstops _⟩

/-- Settles O25: each of the five operations begins only in a quiescent block. -/
theorem operationsDoNotOverlap : Obligations.OperationsDoNotOverlap := by
  intro s hs
  have hstops := whenQuiescent_busy hs
  exact ⟨fun target noz => hstops _, fun h v => hstops _, fun h bytes ts => hstops _, fun words ts protocol => hstops _,
    fun h => hstops _⟩

end Sys2Proof.Proofs
end

section
/-! PROOFS. The decoder reads back what the encoder writes, for every instruction (R60 to R84): each encoding by its format, then by the status
bits it carries. -/

namespace Sys2Proof.Proofs

open Sys2Proof.Machine

theorem decode_byteOf7 (v : U7) : decode (.byte (byteOf7 v)) = .data v := by
  have hv : (byteOf7 v).toNat < 0x80 := (byteOf7_toNat v).trans_lt v.isLt
  rw [decode, decodeByte_data _ hv, low7_byteOf7]

/-! ### The rows of a range of status values, by the bits the range leaves free (R84) -/

section
variable (g ch : U4) (b2 b3 : Byte)

theorem decodeSys1_00_7F (low : BitVec 7) : decodeSys1 g (0#1 ++ low) b2 b3 = .sys1Unrec00_7F g low b2 b3 := by
  fin_cases low <;> rfl

theorem decodeSys1_80_BF (low : BitVec 6) : decodeSys1 g (0b10#2 ++ low) b2 b3 = .sys1Unrec80_BF g low b2 b3 := by
  fin_cases low <;> rfl

theorem decodeSys1_C0_DF (low : BitVec 5) : decodeSys1 g (0b110#3 ++ low) b2 b3 = .sys1UnrecC0_DF g low b2 b3 := by
  fin_cases low <;> rfl

theorem decodeSys1_E0_EF (low : BitVec 4) : decodeSys1 g (0xE#4 ++ low) b2 b3 = .sys1UnrecE0_EF g low b2 b3 := by
  fin_cases low <;> rfl

theorem decodeCv1_0_7 (status : BitVec 3) : decodeCv1 g (0#1 ++ status) ch b2 b3 = .cv1Unrec0_7 g status ch b2 b3 := by
  fin_cases status <;> rfl

theorem decodeSx7_4_7 (status : BitVec 2) : decodeSx7 g (0b01#2 ++ status) ch b2 b3 = .sx7Reserved4_7 g status ch b2 b3 := by
  fin_cases status <;> rfl

theorem decodeSx7_8_F (status : BitVec 3) : decodeSx7 g (1#1 ++ status) ch b2 b3 = .sx7Reserved8_F g status ch b2 b3 := by
  fin_cases status <;> rfl

end

/-! ### Every instruction -/

/-- The rows of a range by the lemmas above; of the others each encoding gives its status value in full, and the decoder's match on it
computes. -/
theorem decode_encode (i : Instr) : decode (encode i) = i := by
  cases i
  case data v => exact decode_byteOf7 v
  case noteOff | noteOn | polyPressure | controlChange | programChange | channelPressure | pitchBend =>
    simp [encode, decode, decodeByte_channel]
  case sys1Unrec00_7F g low b2 b3 => exact (decode_sys1Word ..).trans (decodeSys1_00_7F g b2 b3 low)
  case sys1Unrec80_BF g low b2 b3 => exact (decode_sys1Word ..).trans (decodeSys1_80_BF g b2 b3 low)
  case sys1UnrecC0_DF g low b2 b3 => exact (decode_sys1Word ..).trans (decodeSys1_C0_DF g b2 b3 low)
  case sys1UnrecE0_EF g low b2 b3 => exact (decode_sys1Word ..).trans (decodeSys1_E0_EF g b2 b3 low)
  case cv1Unrec0_7 g status ch b2 b3 => exact (decode_cv1Word ..).trans (decodeCv1_0_7 g ch b2 b3 status)
  case sx7Reserved4_7 g status n b2 b3 => exact (decode_sx7Word ..).trans (decodeSx7_4_7 g n b2 b3 status)
  case sx7Reserved8_F g status n b2 b3 => exact (decode_sx7Word ..).trans (decodeSx7_8_F g n b2 b3 status)
  case umpMtcQf | umpSongPos | umpSongSel | umpTuneReq | umpClock | umpStart | umpContinue | umpStop | umpActiveSense |
      umpSysReset | sys1UnrecF0 | sys1UnrecF4 | sys1UnrecF5 | sys1UnrecF7 | sys1UnrecF9 | sys1UnrecFD => exact decode_sys1Word ..
  case umpNoteOff | umpNoteOn | umpPolyPressure | umpControlChange | umpProgramChange | umpChannelPressure | umpPitchBend |
      cv1UnrecF => exact decode_cv1Word ..
  case sx7Complete | sx7Start | sx7Continue | sx7End => exact decode_sx7Word ..
  case m2RegPnCtrl | m2AsgPnCtrl | m2RegCtrl | m2AsgCtrl | m2RelRegCtrl | m2RelAsgCtrl | m2PnPitchBend | m2Reserved7 | m2NoteOff |
      m2NoteOn | m2PolyPressure | m2ControlChange | m2ProgramChange | m2ChannelPressure | m2PitchBend | m2PnManagement =>
    exact decode_cv2Word ..
  case d128 | unrecMt0 | unrecMt6 | unrecMt7 | unrecMt8 | unrecMt9 | unrecMtA | unrecMtB | unrecMtC | unrecMtD |
      unrecMtE | unrecMtF =>
    simp [encode, decode, decodeWord]
  all_goals rfl

/-- Settles O1: what is encoded decodes to itself, and what is decoded encodes to itself but for the ports of an operation. -/
theorem decodeEncodeRoundTrip : Obligations.DecodeEncodeRoundTrip :=
  ⟨decode_encode, encode_decodeByte, encode_decodeWord, encode_decodeOp⟩

/-- Settles O3: each word is the encoding of its instruction. -/
theorem exampleWordsDecode : Obligations.ExampleWordsDecode :=
  ⟨rfl, rfl, rfl, rfl, rfl, rfl, rfl, rfl, rfl, rfl⟩

end Sys2Proof.Proofs
end

section
/-! PROOFS. The invariant (R20 to R28, R331): what each write of a parser keeps, what a byte keeps, and what an operation leaves in the block. -/

namespace Sys2Proof.Proofs

open Sys2Proof.Machine

/-! ### Messages being assembled (R26) -/

theorem need_of_opensMessage : ∀ {st : Byte}, opensMessage st = true → need st = some 1 ∨ need st = some 2 := by decide

theorem opensMessage_of_isChannelStatus {st : Byte} (h : isChannelStatus st = true) : opensMessage st = true := by
  simp [opensMessage, h]

theorem isChannelStatus_of_mem {b : Byte} (hlo : 0x80 ≤ b.toNat) (hhi : b.toNat < 0xF0) : isChannelStatus b = true := by
  simp [isChannelStatus, hlo]; omega

/-- A message just opened needs at least one byte. -/
theorem pendingWf_opened {st : Byte} (h : opensMessage st = true) : Pending.Wf ⟨st, []⟩ := by
  refine ⟨h, ?_⟩
  rcases need_of_opensMessage h with hneed | hneed
  · exact ⟨1, hneed, by simp⟩
  · exact ⟨2, hneed, by simp⟩

/-! ### The writes of a parser -/

section
variable {params : Params} {p : Parser}

/-- With no message and no running status only `SXBUF` is left to check. -/
theorem wf_of_cleared (hbuffer : p.mode = .idle → p.sxbuf = []) (hrs : p.rs = none) (hpend : p.pend = none) : p.Wf params where
  idleBuffer := hbuffer
  collectingPend _ := hpend
  collectingRs _ := hrs
  rsRange := by simp [hrs]
  rsScope _ := hrs
  pending := by simp [hpend]

/-- In `Idle` the rules about `CollectingSysEx` ask nothing. -/
theorem wf_of_idle (hm : p.mode = .idle) (hbuffer : p.sxbuf = []) (hrange : ∀ st, p.rs = some st → isChannelStatus st = true)
    (hscope : params.rsScope = .none → p.rs = none) (hpend : ∀ m, p.pend = some m → m.Wf) : p.Wf params where
  idleBuffer _ := hbuffer
  collectingPend h := by cases hm.symm.trans h
  collectingRs h := by cases hm.symm.trans h
  rsRange := hrange
  rsScope := hscope
  pending := hpend

theorem wf_fresh (noz : Bool) : (Parser.fresh noz).Wf params := wf_of_cleared (fun _ => rfl) rfl rfl

theorem wf_openSysEx (p : Parser) : (openSysEx p).Wf params := wf_of_cleared (fun _ => rfl) rfl rfl

section
variable (hp : p.Wf params)
include hp

theorem wf_emit (e : Event) : (emit e p).Wf params := { hp with }
theorem wf_advance : (advance p).Wf params := { hp with }
theorem wf_writeNoz (v : Bool) : (writeNoz v p).Wf params := { hp with }

theorem wf_cancelMessage : (cancelMessage p).Wf params := wf_of_cleared hp.idleBuffer rfl rfl

theorem wf_endPacket : (endPacket p).Wf params := { hp with collectingPend := fun _ => rfl, pending := nofun }

theorem wf_startPacket (scope : RsScope) : (startPacket scope p).Wf params := by
  cases scope with
  | none => exact wf_of_cleared hp.idleBuffer rfl rfl
  | packet => exact wf_of_cleared hp.idleBuffer rfl rfl
  | connection => exact { wf_endPacket hp with }

theorem wf_collect (hm : p.mode = .collectingSysEx) (v : U7) : (collect v p).Wf params :=
  { hp with idleBuffer := fun h => by cases hm.symm.trans h }

theorem wf_sxFinish : (sxFinish p).Wf params := by
  rw [sxFinish_eq]
  exact wf_of_idle rfl rfl hp.rsRange hp.rsScope hp.pending

/-! ### A byte in `Idle` -/

variable (hm : p.mode = .idle)
include hm

/-- In `Idle`, `PEND` may hold any unfinished message. -/
theorem wf_setPend {pend : Option Pending} (hpend : ∀ m, pend = some m → m.Wf) : ({ p with pend := pend } : Parser).Wf params :=
  wf_of_idle hm (hp.idleBuffer hm) hp.rsRange hp.rsScope hpend

theorem wf_openSystemMessage {st : Byte} (hst : opensMessage st = true) : (openSystemMessage st p).Wf params :=
  wf_of_idle hm (hp.idleBuffer hm) nofun (fun _ => rfl) fun m h => by cases h; exact pendingWf_opened hst

theorem wf_openChannelMessage {st : Byte} (hst : isChannelStatus st = true) :
    (openChannelMessage params.rsScope st p).Wf params := by
  refine wf_of_idle hm (hp.idleBuffer hm) ?_ ?_ fun m h => ?_
  · intro st' h
    rw [openChannelMessage_rs] at h
    split at h
    · exact hp.rsRange st' h
    · cases h; exact hst
  · intro hscope
    rw [openChannelMessage_rs, if_pos hscope, hp.rsScope hscope]
  · cases h
    exact pendingWf_opened (opensMessage_of_isChannelStatus hst)

theorem wf_addData {m : Pending} (hmsg : m.Wf) (v : U7) : (addData m v p).Wf params := by
  obtain ⟨st, d⟩ := m
  obtain ⟨n, hneed, hlen⟩ := hmsg.short
  by_cases hn : d.length + 1 = n
  · subst hn
    rw [addData_last hneed]
    exact { wf_setPend hp hm (pend := none) nofun with }
  · rw [addData_short hneed hn]
    refine wf_setPend hp hm fun m h => ?_
    cases h
    exact ⟨hmsg.status, n, hneed, by simp at hlen ⊢; omega⟩

theorem wf_idleData (v : U7) : (idleData v p).Wf params := by
  cases hpend : p.pend with
  | some m => simpa [idleData, hpend] using wf_addData hp hm (hp.pending m hpend) v
  | none =>
    cases hrs : p.rs with
    | some st =>
      have hst := opensMessage_of_isChannelStatus (hp.rsRange st hrs)
      simpa [idleData, hpend, hrs] using wf_addData hp hm (pendingWf_opened hst) v
    | none => rwa [idleData_orphan hpend hrs]

theorem wf_systemCommonByte (b : Byte) : (systemCommonByte b p).Wf params := by
  unfold systemCommonByte
  split
  case isTrue => exact wf_openSysEx p
  split
  case isTrue hb => exact wf_openSystemMessage hp hm (by rcases hb with rfl | rfl | rfl <;> decide)
  split
  case isTrue => exact wf_emit (wf_cancelMessage hp) _
  split
  all_goals exact wf_cancelMessage hp

theorem wf_idleByte (b : Byte) : (idleByte params b p).Wf params := by
  unfold idleByte
  split
  case isTrue => exact wf_idleData hp hm _
  case isFalse hlo =>
    split
    case isTrue hhi => exact wf_openChannelMessage hp hm (isChannelStatus_of_mem (by omega) hhi)
    case isFalse => exact wf_systemCommonByte hp hm b

end

/-! ### A byte in either mode -/

theorem mode_eq_idle (hm : p.mode ≠ .collectingSysEx) : p.mode = .idle := by
  cases h : p.mode with
  | idle => rfl
  | collectingSysEx => exact absurd h hm

section
variable (hp : p.Wf params)
include hp

theorem wf_realTimeByte (b : Byte) : (realTimeByte b p).Wf params := by
  unfold realTimeByte
  dsimp only
  repeat' split
  iterate 6 exact wf_emit hp _
  exact hp

theorem wf_m1Byte (b : Byte) : (m1Byte params b p).Wf params := by
  refine wf_advance ?_
  split
  case isTrue => exact wf_realTimeByte hp b
  split
  case isTrue hm =>
    split
    case isTrue => exact wf_collect hp hm _
    split
    case isTrue => exact wf_sxFinish hp
    case isFalse => exact wf_idleByte (wf_sxFinish hp) (sxFinish_mode p) b
  case isFalse hm => exact wf_idleByte hp (mode_eq_idle hm) b

end
end

/-! ### The block between packets -/

/-- What the invariant asks of a parser that has no packet in progress. -/
def AtRest (params : Params) (p : Parser) : Prop := p.Wf params ∧ p.pend = none

theorem atRest_fresh (params : Params) (noz : Bool) : AtRest params (Parser.fresh noz) := ⟨wf_fresh noz, rfl⟩

section
variable {s : State} {h : Nat}

theorem atRest_of_inv (hinv : s.Inv) {k : Nat} {p : Parser} (hp : s.parser? k = some p) (hk : ∀ pkt, s.phase ≠ .packet k pkt) :
    AtRest s.params p :=
  ⟨hinv.parsers k p hp, hinv.between k p hp hk⟩

theorem inv_of_atRest (hpacket : ∀ h pkt, s.phase ≠ .packet h pkt) (hgroup : ∀ ws, s.phase = .group ws → ws ≠ [])
    (hall : ∀ k p, s.parser? k = some p → AtRest s.params p) : s.Inv where
  parsers k p hp := (hall k p hp).1
  between k p hp _ := (hall k p hp).2
  packet h pkt hs := absurd hs (hpacket h pkt)
  group := hgroup

theorem inv_of_quiescent (hs : s.phase = .quiescent) (hall : ∀ k p, s.parser? k = some p → AtRest s.params p) : s.Inv :=
  inv_of_atRest (by simp [hs]) (by simp [hs]) hall

/-- In a packet the parser of the packet has `CUR` in it, and every other is at rest. -/
theorem inv_of_packet {pkt : List Byte} {p : Parser} (hs : s.phase = .packet h pkt) (hp : s.parser? h = some p)
    (hwf : p.Wf s.params) (hcur : p.cur ≤ pkt.length) (hother : ∀ k q, k ≠ h → s.parser? k = some q → AtRest s.params q) :
    s.Inv where
  parsers k q hq := by
    by_cases hk : k = h
    · subst hk
      cases hp.symm.trans hq
      exact hwf
    · exact (hother k q hk hq).1
  between k q hq hout := by
    refine (hother k q ?_ hq).2
    rintro rfl
    exact hout pkt hs
  packet h' pkt' hs' := by
    cases hs.symm.trans hs'
    exact ⟨p, hp, hcur⟩
  group ws hs' := by cases hs.symm.trans hs'

/-! ### The block after a write of a parser -/

/-- After a write every parser is at rest where the one written is and all others were. -/
theorem atRest_setParser {x : Option Parser} (hx : ∀ q, x = some q → AtRest s.params q)
    (hother : ∀ k q, k ≠ h → s.parser? k = some q → AtRest s.params q) (k : Nat) (q : Parser)
    (hq : (s.setParser h x).parser? k = some q) : AtRest s.params q := by
  by_cases hk : k = h
  · rw [parser?_eq_some, setParser_parsers, hk, List.getElem?_set, if_pos rfl] at hq
    split at hq
    · exact hx q (Option.some.inj hq)
    · cases hq
  · exact hother k q hk ((parser?_setParser_ne s x hk).symm.trans hq)

theorem atRest_append (hall : ∀ k p, s.parser? k = some p → AtRest s.params p) {p : Parser} (hp : AtRest s.params p) (k : Nat)
    (q : Parser) (hq : ({ s with parsers := s.parsers ++ [some p] } : State).parser? k = some q) : AtRest s.params q := by
  by_cases hk : k = s.parsers.length
  · subst hk
    rw [parser?_append_self] at hq
    cases hq
    exact hp
  · rw [parser?_append_ne s _ hk] at hq
    exact hall k q hq

end

/-! ### The invariant after a step -/

section
variable {s t : State} (hinv : s.Inv)
include hinv

/-- An operation begins in a quiescent block, or writes nothing but its outcome. -/
theorem inv_operation {i : Instr} (hop : i.isOperation = true) (e : exec i s = .next t) : t.Inv := by
  rcases operation_next hop e with ⟨r, rfl⟩ | ⟨hs, hcases⟩
  · exact { hinv with }
  have hall (k : Nat) (p : Parser) (hp : s.parser? k = some p) : AtRest s.params p := atRest_of_inv hinv hp (by simp [hs])
  rcases hcases with ⟨noz, -, rfl⟩ | ⟨h, p, noz, -, hp, rfl⟩ | ⟨h, p, v, -, hp, rfl⟩ | ⟨h, p, -, hp, rfl⟩ |
    ⟨h, p, bytes, ts, -, hp, rfl⟩ | ⟨w, ws, ts, protocol, -, rfl⟩
  · exact inv_of_quiescent hs (atRest_append hall (atRest_fresh _ _))
  · refine inv_of_quiescent hs (atRest_setParser (fun q hq => ?_) fun k q _ => hall k q)
    cases hq
    exact atRest_fresh _ _
  · refine inv_of_quiescent hs (atRest_setParser (fun q hq => ?_) fun k q _ => hall k q)
    cases hq
    exact ⟨wf_writeNoz (hall h p hp).1 v, (hall h p hp).2⟩
  · exact inv_of_quiescent hs (atRest_setParser nofun fun k q _ => hall k q)
  · refine inv_of_packet rfl (parser?_setParser_self (s := s) _ hp) (wf_startPacket (hall h p hp).1 _) (Nat.zero_le _) ?_
    exact fun k q hk hq => hall k q ((parser?_setParser_ne s _ hk).symm.trans hq)
  · exact inv_of_atRest nofun (fun _ h => by cases h; exact List.cons_ne_nil w ws) hall

/-- The end of a packet puts its parser to rest. -/
theorem inv_packetEnd {h : Nat} {pkt : List Byte} {p : Parser} (hs : s.phase = .packet h pkt) (hp : s.parser? h = some p) :
    (((s.setParser h (some (endPacket p))).finish).reply (.events p.out)).Inv := by
  refine inv_of_quiescent rfl (atRest_setParser (s := s) (fun q hq => ?_) fun k q hk hq => ?_)
  · cases hq
    exact ⟨wf_endPacket (hinv.parsers h p hp), rfl⟩
  · exact atRest_of_inv hinv hq (by simp [hs, Ne.symm hk])

/-- A byte takes `CUR` one further in the packet. -/
theorem inv_byte {h : Nat} {pkt : List Byte} {p : Parser} {b : Byte} (hs : s.phase = .packet h pkt) (hp : s.parser? h = some p)
    (hb : pkt[p.cur]? = some b) : (s.setParser h (some (m1Byte s.params b p))).Inv := by
  obtain ⟨hcur, -⟩ := List.getElem?_eq_some_iff.mp hb
  refine inv_of_packet hs (parser?_setParser_self _ hp) (wf_m1Byte (hinv.parsers h p hp) b) ?_ fun k q hk hq => ?_
  · rwa [m1Byte_cur]
  · rw [parser?_setParser_ne s _ hk] at hq
    exact atRest_of_inv hinv hq (by simp [hs, Ne.symm hk])

end

/-- Settles O28: by all that a step can do. -/
theorem stepKeepsInv : Obligations.StepKeepsInv := by
  intro s t hinv e
  rcases step_next e with ⟨-, -, rfl⟩ | ⟨r, rest, -, -, e⟩ | ⟨h, pkt, p, b, hs, hp, hb, e⟩ | ⟨h, pkt, p, hs, hp, -, rfl⟩ |
    ⟨w, ws, hs, e⟩
  · exact hinv
  · exact inv_operation (s := { s with requests := rest }) { hinv with } (decodeOp_isOperation r) e
  · cases (byteStepIsM1Byte s h pkt p b hs hp).symm.trans e
    exact inv_byte hinv hs hp hb
  · exact inv_packetEnd hinv hs hp
  · obtain ⟨n, read, hrow⟩ := decodeWord_umpRow w
    obtain ⟨ws', r, -, rfl⟩ := umpRow_next ((hrow s).symm.trans e)
    exact inv_of_quiescent rfl fun k p hp => atRest_of_inv hinv hp (by simp [hs])

/-- Settles O27: the one parser is fresh. -/
theorem resetMeetsInv : Obligations.ResetMeetsInv :=
  inv_of_quiescent rfl (atRest_append (s := { State.reset with parsers := [] }) nofun (atRest_fresh _ _))

/-- Settles O22: every field by its value; the list of parsers has one place. -/
theorem resetState : Obligations.ResetState := by
  refine ⟨rfl, fun h hh => ?_, rfl, rfl, rfl, rfl⟩
  cases h with
  | zero => exact absurd rfl hh
  | succ k => rfl

end Sys2Proof.Proofs
end

section
/-! PROOFS. What an instruction that answers next writes beside the parsers and the phase: no parameter and no request, and at most one outcome, an
error only where its check fails (R320, R325, R362). -/

namespace Sys2Proof.Proofs

open Sys2Proof.Machine

/-! ### The errors of the operations -/

/-- The errors each operation can raise (R325). -/
inductive Raises : Instr → CodecError → Prop
  | malformed (bytes : List Byte) (group : Option U4) (cause : Cause) :
    Raises (.sx7FromBytes bytes group) (.malformedMessage cause)
  | nan (field : Option Machine.Field) : Raises (.bp32Enc .nan) (.outOfRangeValue .bipolar32 field .nan)
  | uint4 (field : Option Machine.Field) (x : Int) : Raises (.u4Check x) (.outOfRangeValue .uint4 field (.int x))
  | uint7 (field : Option Machine.Field) (x : Int) : Raises (.u7Check x) (.outOfRangeValue .uint7 field (.int x))
  | evMake (raw : RawEvent) (type : RangeType) (field : Option Machine.Field) (x : Int) :
    Raises (.evMake raw) (.outOfRangeValue type field (.int x))

section
variable {err : CodecError}

theorem rangeCheck_error {n : Nat} {type : RangeType} {field : Option Machine.Field} {x : Int}
    (h : rangeCheck n type field x = .error err) : err = .outOfRangeValue type field (.int x) := by
  unfold rangeCheck at h
  split at h
  · cases h
  · exact (Except.error.inj h).symm

theorem sx7FromBytes_error {bytes : List Byte} {group : U4} (h : sx7FromBytes bytes group = .error err) :
    ∃ cause, err = .malformedMessage cause := by
  unfold sx7FromBytes at h
  dsimp only at h
  repeat' split at h
  all_goals cases h
  all_goals exact ⟨_, rfl⟩

theorem bp32Encode_error {arith : ScalerArith} {v : Real64} (h : bp32Encode arith v = .error err) :
    v = .nan ∧ err = .outOfRangeValue .bipolar32 none .nan := by
  cases v with
  | nan => exact ⟨rfl, (Except.error.inj h).symm⟩
  | negInf => cases arith <;> cases h
  | posInf => cases arith <;> cases h
  | finite q => cases arith <;> cases h

theorem evMake_error {raw : RawEvent} (h : evMake raw = .error err) : ∃ type field x, err = .outOfRangeValue type field (.int x) := by
  rcases evMake_checksInOrder raw with ⟨-, e, -, hok⟩ | ⟨pre, ty, f, x, post, -, -, -, herr⟩
  · cases hok.symm.trans h
  · exact ⟨ty, some f, x, Except.error.inj (h.symm.trans herr)⟩

end

/-! ### The outcomes an instruction appends -/

/-- What an instruction `i` that goes from `s` to the state has appended to the outcomes. -/
inductive Appends (s : State) (i : Instr) : State → Prop
  | nothing {t : State} (h : t.replies = s.replies) : Appends s i t
  | value {t : State} (r : Reply) (h : t.replies = s.replies ++ [r]) (hr : ∀ err, r ≠ .error err) : Appends s i t
  | error {err : CodecError} (h : Raises i err) : Appends s i (s.reply (.error err))

section
variable {s t : State} {i : Instr}

theorem appends_onParser {h : Nat} {f : Parser → State} (e : whenQuiescent s (withParser s h fun p => .next (f p)) = .next t)
    (hf : ∀ p, Appends s i (f p)) : Appends s i t := by
  obtain ⟨-, e⟩ := whenQuiescent_next e
  obtain ⟨p, -, e⟩ := withParser_next e
  cases e
  exact hf p

theorem appends_returnOrRaise {α : Type} {f : α → Reply} {x : Except CodecError α} (e : returnOrRaise s f x = .next t)
    (hf : ∀ a err, f a ≠ .error err) (hx : ∀ err, x = .error err → Raises i err) : Appends s i t := by
  cases x with
  | ok a => cases e; exact .value (f a) rfl (hf a)
  | error err => cases e; exact .error (hx err rfl)

theorem appends_returnOrRefuse {α : Type} {f : α → Reply} {x : Except Refusal α} (e : returnOrRefuse s f x = .next t)
    (hf : ∀ a err, f a ≠ .error err) : Appends s i t := by
  cases x with
  | ok a => cases e; exact .value (f a) rfl (hf a)
  | error r => cases e

theorem appends_operation (hop : i.isOperation = true) (e : exec i s = .next t) : Appends s i t := by
  cases i <;> cases hop
  case m1Reset target noz =>
    cases target with
    | none =>
      obtain ⟨-, e⟩ := whenQuiescent_next e
      cases e
      exact .value _ rfl (by simp)
    | some h => exact appends_onParser e fun p => .value _ rfl (by simp)
  case cfgWrite h v => exact appends_onParser e fun p => .value _ rfl (by simp)
  case m1Abandon h => exact appends_onParser e fun p => .value _ rfl (by simp)
  case m1Packet h bytes ts => exact appends_onParser e fun p => .nothing rfl
  case m2Decode words ts protocol =>
    obtain ⟨-, e⟩ := whenQuiescent_next e
    cases words with
    | nil => cases e; exact .value _ rfl (by simp)
    | cons w ws => cases e; exact .nothing rfl
  case sx7FromBytes bytes group =>
    refine appends_returnOrRaise e (by simp) fun err h => ?_
    obtain ⟨cause, rfl⟩ := sx7FromBytes_error h
    exact .malformed ..
  case bp32Enc v =>
    refine appends_returnOrRaise e (by simp) fun err h => ?_
    obtain ⟨rfl, rfl⟩ := bp32Encode_error h
    exact .nan ..
  case u4Check x =>
    refine appends_returnOrRaise e (by simp) fun err h => ?_
    rw [rangeCheck_error h]
    exact .uint4 ..
  case u7Check x =>
    refine appends_returnOrRaise e (by simp) fun err h => ?_
    rw [rangeCheck_error h]
    exact .uint7 ..
  case evMake raw =>
    refine appends_returnOrRaise e (by simp) fun err h => ?_
    obtain ⟨type, field, x, rfl⟩ := evMake_error h
    exact .evMake ..
  case packM1 ev => exact appends_returnOrRefuse e (by simp)
  case packUmp ev protocol => exact appends_returnOrRefuse e (by simp)
  case opReservedF => cases e
  all_goals
    cases e
    exact .value _ rfl (by simp)

theorem appends_exec (e : exec i s = .next t) : Appends s i t := by
  rcases exec_shape i with ⟨f, hbyte⟩ | ⟨n, read, hword, -⟩ | hop
  · obtain ⟨h, pkt, p, -, -, rfl⟩ := byteRow_next ((hbyte s).symm.trans e)
    exact .nothing rfl
  · obtain ⟨ws, r, -, rfl⟩ := umpRow_next ((hword s).symm.trans e)
    exact .value (.decoded r) rfl (by simp)
  · exact appends_operation hop e

/-! ### The parameters and the requests -/

theorem params_requests_of_exec (e : exec i s = .next t) : t.params = s.params ∧ t.requests = s.requests := by
  rcases exec_shape i with ⟨f, hbyte⟩ | ⟨n, read, hword, -⟩ | hop
  · obtain ⟨h, pkt, p, -, -, rfl⟩ := byteRow_next ((hbyte s).symm.trans e)
    exact ⟨rfl, rfl⟩
  · obtain ⟨ws, r, -, rfl⟩ := umpRow_next ((hword s).symm.trans e)
    exact ⟨rfl, rfl⟩
  · rcases operation_next hop e with ⟨r, rfl⟩ | ⟨-, ⟨noz, -, rfl⟩ | ⟨h, p, noz, -, -, rfl⟩ | ⟨h, p, v, -, -, rfl⟩ |
      ⟨h, p, -, -, rfl⟩ | ⟨h, p, bytes, ts, -, -, rfl⟩ | ⟨w, ws, ts, protocol, -, rfl⟩⟩
    all_goals exact ⟨rfl, rfl⟩

theorem frame_of_exec (e : exec i s = .next t) :
    t.params = s.params ∧ t.requests = s.requests ∧ (t.replies = s.replies ∨ ∃ r, t.replies = s.replies ++ [r]) := by
  obtain ⟨hparams, hrequests⟩ := params_requests_of_exec e
  refine ⟨hparams, hrequests, ?_⟩
  cases appends_exec e with
  | nothing h => exact .inl h
  | value r h _ => exact .inr ⟨r, h⟩
  | error _ => exact .inr ⟨_, rfl⟩

end

/-! ### The obligations -/

/-- Settles O4: by the four places the step fetches from. -/
theorem stepRunsTheDecodedInstruction : Obligations.StepRunsTheDecodedInstruction := fun _ =>
  ⟨fun _ _ => step_operation, fun _ _ _ _ => step_byte, fun _ _ => step_word, step_wait⟩

/-- Settles O5: waiting changes nothing, the end of a packet appends its Events, and any other step is an instruction's, an operation's
without the request it was. -/
theorem stepOnlyAppendsOutcomes : Obligations.StepOnlyAppendsOutcomes := by
  intro s t e
  rcases step_next e with ⟨-, -, rfl⟩ | ⟨r, rest, -, hr, e⟩ | ⟨h, pkt, p, b, -, -, -, e⟩ | ⟨h, pkt, p, -, -, -, rfl⟩ |
    ⟨w, ws, -, e⟩
  · exact ⟨rfl, .inl rfl, .inl rfl⟩
  · obtain ⟨hparams, hrequests, hreplies⟩ := frame_of_exec e
    exact ⟨hparams, .inr ⟨r, by rw [hr, hrequests]⟩, hreplies⟩
  · obtain ⟨hparams, hrequests, hreplies⟩ := frame_of_exec e
    exact ⟨hparams, .inl hrequests, hreplies⟩
  · exact ⟨rfl, .inl rfl, .inr ⟨.events p.out, rfl⟩⟩
  · obtain ⟨hparams, hrequests, hreplies⟩ := frame_of_exec e
    exact ⟨hparams, .inl hrequests, hreplies⟩

/-- Settles O31: an outcome that is an error was raised, and by its check. -/
theorem errorsByOperation : Obligations.ErrorsByOperation := by
  intro i s t err e hreplies
  cases appends_exec e with
  | nothing h => simp [h] at hreplies
  | value r h hr => exact absurd (by simpa [h] using hreplies) (hr err)
  | error hraises =>
    obtain rfl : _ = err := by simpa using hreplies
    refine ⟨rfl, ?_⟩
    cases hraises with
    | malformed bytes group cause => exact ⟨bytes, group, rfl⟩
    | nan => exact .inl ⟨rfl, rfl, rfl⟩
    | uint4 field x => exact .inr (.inl ⟨x, rfl, rfl, rfl⟩)
    | uint7 field x => exact .inr (.inr (.inl ⟨x, rfl, rfl, rfl⟩))
    | evMake raw type field x => exact .inr (.inr (.inr ⟨raw, rfl, x, rfl⟩))

end Sys2Proof.Proofs
end
